-- ==== Sys2Proof/Word.lean ====
section
/-! DEFINITION. The fixed widths of the machine (00_scope.md R4): a byte is 8 bits; an address, PC, SP and a
register pair are 16 bits. Arithmetic on both wraps at the width (R10), which is BitVec's own arithmetic. -/

namespace Sys2Proof

/-- 8 bits: a memory byte, a general register, an opcode (R4). -/
abbrev Byte := BitVec 8

/-- 16 bits: an address, PC, SP, a register pair, the fetched operand value (R4). -/
abbrev Word := BitVec 16

end Sys2Proof
end

