-- ==== Sys2Proof/Machine/Bits.lean ====
section
/-! DEFINITION. Taking words apart and putting them together (00_scope.md section 4). -/

namespace Sys2Proof

/-- Bits 15:8. -/
def hiByte (w : Word) : Byte := w.extractLsb' 8 8

/-- Bits 7:0. -/
def loByte (w : Word) : Byte := w.extractLsb' 0 8

/-- `(hi << 8) | lo`. -/
def join (hi lo : Byte) : Word := hi ++ lo

/-- `zext_16`. -/
def zext (b : Byte) : Word := b.setWidth 16

/-- `sext_16`: bit 7 copied into bits 15:8. -/
def sext (b : Byte) : Word := b.signExtend 16

/-- The high-page address `0xFF00 | b` (30_encoding.md R82). -/
def highPage (b : Byte) : Word := 0xFF00 ||| zext b

end Sys2Proof
end

