-- ==== Sys2Proof/Config.lean ====
section
/-! DEFINITION. The parameters the spec leaves to the machine's builder (00_scope.md R5 to R9). -/

namespace Sys2Proof.Config

/-! ## The cartridge provider (R8, 20_memory.md R61) -/

/-- An access the core makes to the cartridge provider, with the full 16-bit address (20_memory.md R52). -/
inductive CartAccess where
  | read (addr : Word)
  | write (addr : Word) (b : Byte)
deriving DecidableEq, Repr

/-- The address of an access. -/
def CartAccess.addr : CartAccess → Word
  | .read a => a
  | .write a _ => a

/-- The cartridge provider CART (R8; 92_eei_decisions.md D14): the reference provider of 20_memory.md R61, or any other
one, under a number of its own (log 3). -/
inductive Cart where
  | reference
  | other (id : Nat)
deriving DecidableEq, Repr

/-- `CART.read(addr)` of the provider `id`, after the accesses made to it so far (the latest first). R8 leaves the provider
open, so this has no value to reason from (log 3): what a write does (20_memory.md R42), and whether a read has a
side effect (R60), is for it to say. -/
opaque cartByte (id : Nat) (accesses : List CartAccess) (addr : Word) : Byte

/-! ## The other parameters -/

/-- The parameters that are part of a machine. They are held in `State.params`, so that a statement about
every state holds for every value of them; no step changes them.
DESIGN CHOICE (log 3, log 4, log 6), safe: a field of State, and not a constant with the default as its value. -/
structure Params where
  /-- OPCODE_FETCH_TICKS, 0 or 1 (R5). -/
  opcodeFetchTicks : Fin 2
  /-- The mapped opcodes left out of IMPLEMENTED_SET (R7, 30_encoding.md R91). -/
  leftOut : List Byte
  /-- CART (R8). -/
  cart : Cart
deriving DecidableEq, Repr

/-- The spec's defaults: the opcode fetch ticks once (R5) and all 153 opcodes are implemented (R7).
DESIGN CHOICE (log 3), unsafe: R8 has no default for CART; here it is the reference provider of 20_memory.md R61. -/
def Params.default : Params := { opcodeFetchTicks := 1, leftOut := [], cart := .reference }

/-- HALTED_STEP_TICKS, 0 or 1 (R6): "No default is taken" (D7), so it is a constant with no value to reason from (log 5). -/
opaque haltedStepTicks : Fin 2

/-- INIT_REGS (R9): the registers at launch. F's low nibble is 0; the launch writes F through the mask of R19. -/
structure InitRegs where
  a : Byte
  f : Byte
  b : Byte
  c : Byte
  d : Byte
  e : Byte
  h : Byte
  l : Byte
  sp : Word
deriving DecidableEq, Repr

/-- The INIT_REGS of `State.reset`. DESIGN CHOICE (log 1), unsafe: the spec gives no values; these are the
conventions of 95_test_vectors.md section 0. -/
def InitRegs.default : InitRegs :=
  { a := 0, f := 0, b := 0, c := 0, d := 0, e := 0, h := 0, l := 0, sp := 0 }

end Sys2Proof.Config
end

