-- ==== Sys2Proof/Syntax.lean ====
section
/-! DEFINITION. The instructions as syntax, and the descriptor that the instruction table gives each
(30_encoding.md R74 to R76). -/

namespace Sys2Proof

/-- The three instruction formats (R74). -/
inductive Format where
  | op | opImm8 | opImm16
deriving DecidableEq, Repr

/-- The length of an instruction in bytes (R74). -/
def Format.length : Format → Nat
  | .op => 1 | .opImm8 => 2 | .opImm16 => 3

/-- Operation kinds (R76). `none` is the sentinel's kind, which is not NOP (90_conflicts.md C4). -/
inductive Kind where
  | nop | ld | ldh | jp | jr | call | ret | reti | push | pop | inc | rst | di | xor | none
deriving DecidableEq, Repr

/-- Addressing modes (R75; 40_step_and_addressing.md R103 to R122). -/
inductive Mode where
  | imp | r | rR | rD8 | rD16 | d8 | d16 | mrR | hliR | hldR | rMr | rHli | rHld | mrD8 | mr | a16R | rA16 | a8R | rA8 | hlSpr
deriving DecidableEq, Repr

/-- Register designators (10_state.md R23). -/
inductive Reg where
  | a | f | b | c | d | e | h | l | af | bc | de | hl | sp | pc | none
deriving DecidableEq, Repr

/-- Branch conditions (10_state.md R22). -/
inductive Cond where
  | none | nz | z | nc | c
deriving DecidableEq, Repr

/-- One entry of the instruction table (R76). -/
structure Desc where
  kind : Kind
  mode : Mode
  r1 : Reg
  r2 : Reg
  cond : Cond
  /-- The restart target of RST (R87). -/
  param : Option Word
deriving DecidableEq, Repr

/-- What every unmapped opcode maps to (R77). -/
def Desc.sentinel : Desc := { kind := .none, mode := .imp, r1 := .none, r2 := .none, cond := .none, param := none }

/-- The instructions: one constructor for each mnemonic of the opcode table, with its immediate, in opcode order.
The 103 rows of the one mnemonic INVALID are `invalid` with the row's opcode (R88; log 17). -/
inductive Instr where
  | nop
  | ldBCD16 (d16 : Word)
  | ldIndBCA
  | incBC
  | incB
  | ldBD8 (d8 : Byte)
  | ldIndA16SP (a16 : Word)
  | ldAIndBC
  | incC
  | ldCD8 (d8 : Byte)
  | ldDED16 (d16 : Word)
  | ldIndDEA
  | incDE
  | incD
  | ldDD8 (d8 : Byte)
  | jrE8 (e8 : Byte)
  | ldAIndDE
  | incE
  | ldED8 (d8 : Byte)
  | jrNZE8 (e8 : Byte)
  | ldHLD16 (d16 : Word)
  | ldIndHLIncA
  | incHL
  | incH
  | ldHD8 (d8 : Byte)
  | jrZE8 (e8 : Byte)
  | ldAIndHLInc
  | incL
  | ldLD8 (d8 : Byte)
  | jrNCE8 (e8 : Byte)
  | ldSPD16 (d16 : Word)
  | ldIndHLDecA
  | incSP
  | incIndHL
  | ldIndHLD8 (d8 : Byte)
  | jrCE8 (e8 : Byte)
  | ldAIndHLDec
  | incA
  | ldAD8 (d8 : Byte)
  | ldBB
  | ldBC
  | ldBD
  | ldBE
  | ldBH
  | ldBL
  | ldBIndHL
  | ldBA
  | ldCB
  | ldCC
  | ldCD
  | ldCE
  | ldCH
  | ldCL
  | ldCIndHL
  | ldCA
  | ldDB
  | ldDC
  | ldDD
  | ldDE
  | ldDH
  | ldDL
  | ldDIndHL
  | ldDA
  | ldEB
  | ldEC
  | ldED
  | ldEE
  | ldEH
  | ldEL
  | ldEIndHL
  | ldEA
  | ldHB
  | ldHC
  | ldHD
  | ldHE
  | ldHH
  | ldHL
  | ldHIndHL
  | ldHA
  | ldLB
  | ldLC
  | ldLD
  | ldLE
  | ldLH
  | ldLL
  | ldLIndHL
  | ldLA
  | ldIndHLB
  | ldIndHLC
  | ldIndHLD
  | ldIndHLE
  | ldIndHLH
  | ldIndHLL
  | ldIndHLA
  | ldAB
  | ldAC
  | ldAD
  | ldAE
  | ldAH
  | ldAL
  | ldAIndHL
  | ldAA
  | xorB
  | xorC
  | xorD
  | xorE
  | xorH
  | xorL
  | xorIndHL
  | xorA
  | retNZ
  | popBC
  | jpNZA16 (a16 : Word)
  | jpA16 (a16 : Word)
  | callNZA16 (a16 : Word)
  | pushBC
  | rst00
  | retZ
  | ret
  | jpZA16 (a16 : Word)
  | callZA16 (a16 : Word)
  | callA16 (a16 : Word)
  | rst08
  | retNC
  | popDE
  | jpNCA16 (a16 : Word)
  | callNCA16 (a16 : Word)
  | pushDE
  | rst10
  | retC
  | reti
  | jpCA16 (a16 : Word)
  | callCA16 (a16 : Word)
  | rst18
  | ldhIndA8A (a8 : Byte)
  | popHL
  | ldIndCA
  | pushHL
  | rst20
  | jpHL
  | ldIndA16A (a16 : Word)
  | xorD8 (d8 : Byte)
  | rst28
  | ldhAIndA8 (a8 : Byte)
  | popAF
  | ldAIndC
  | di
  | pushAF
  | rst30
  | ldHLSPe8 (e8 : Byte)
  | ldSPHL
  | ldAIndA16 (a16 : Word)
  | rst38
  | invalid (opcode : Byte)
deriving DecidableEq, Repr

end Sys2Proof
end

