-- ==== Sys2Proof/Machine/State.lean ====
section
/-! DEFINITION. The state of the machine as plain data (10_state.md), the reasons a step can stop, and the state
after reset. -/

namespace Sys2Proof.Machine

/-- The direction of a bus access; a write records its byte (20_memory.md R53). -/
inductive Access where
  | read
  | write (b : Byte)
deriving DecidableEq, Repr

/-- The two fault kinds of the core and what each records (60_exceptions.md R179). -/
inductive FaultInfo where
  | invalidInstruction (opcode : Byte) (opcodePc : Word)
  | unsupportedRegion (addr : Word) (access : Access)
deriving DecidableEq, Repr

/-- The run status (10_state.md R30). -/
inductive Status where
  | running
  | faulted (info : FaultInfo)
deriving DecidableEq, Repr

/-- The step-transient state (10_state.md R27). -/
structure Transient where
  curOpcode : Byte
  curDesc : Desc
  opcodePc : Word
  fetched : Word
  destIsMem : Bool
  memDest : Word
  sprH : Bool
  sprC : Bool
deriving DecidableEq, Repr

/-- The transient state between steps, where it has no meaning (R29, R38).
DESIGN CHOICE (log 9), safe: fixed values, so that states that differ in nothing the spec keeps are equal. -/
def Transient.cleared : Transient :=
  { curOpcode := 0, curDesc := Desc.sentinel, opcodePc := 0, fetched := 0, destIsMem := false, memDest := 0,
    sprH := false, sprC := false }

/-- The bytes the two reference providers hold, by address (20_memory.md R52, R61, R62): addresses strictly rising, and no
entry equal to what an unlisted address reads as (`Memory.wf`). -/
abbrev Memory := List Host.Cell

/-- The state of one core and of the providers it borrows (10_state.md). -/
structure State where
  a : Byte
  f : Byte
  b : Byte
  c : Byte
  d : Byte
  e : Byte
  h : Byte
  l : Byte
  pc : Word
  sp : Word
  /-- The interrupt-master-enable flag (R24). -/
  ime : Bool
  /-- The interrupt-enable register, at address 0xFFFF (R25). -/
  ie : Byte
  halted : Bool
  ticks : Nat
  status : Status
  /-- The step-transient state. -/
  t : Transient
  /-- Working RAM and high RAM, and the reference provider's cartridge ROM and RAM. -/
  mem : Memory
  /-- The state of a cartridge provider other than the reference one: the accesses made to it so far, the latest first
  (00_scope.md R8; log 3). Under the reference provider it stays empty. -/
  cartLog : List Config.CartAccess
  /-- The machine's parameters, which no step changes (log 3, log 4, log 6). -/
  params : Config.Params
deriving DecidableEq, Repr

/-- Why a step stops. Each fault of the core carries the state it leaves behind (60_exceptions.md R182; log 7). -/
inductive Fault where
  /-- Raised by the sentinel descriptor in Execute (45_system.md R177, R180). Safe: the spec's own outcome of the step. -/
  | invalidInstruction (opcode : Byte) (opcodePc : Word) (left : State)
  /-- Raised by the bus on an access to a window it does not implement (60_exceptions.md R181). Safe: the spec's own outcome. -/
  | unsupportedRegion (addr : Word) (access : Access) (left : State)
  /-- Raised by `step` in a state that is already Faulted, from which the core has no step
  (40_step_and_addressing.md R95; log 8). Safe: the machine does not go on. -/
  | alreadyFaulted (info : FaultInfo)
deriving DecidableEq, Repr

/-- Why the model has no meaning for an instruction. -/
inductive Refusal where
  /-- Raised by `exec` for an instruction that has no meaning yet; no arm does. Safe. -/
  | notModelled (mnemonic : String)
deriving DecidableEq, Repr

/-- The state at launch (70_reset_and_hazards.md R196), for each cartridge image and initial RAM (`image`), each
INIT_REGS and each value of the parameters, CART among them. A provider other than the reference one answers for its own
windows, so the image's bytes there are not read. F is written through its mask (10_state.md R19). -/
def State.launch (image : Memory) (r : Config.InitRegs) (p : Config.Params) : State :=
  { a := r.a, f := r.f &&& 0xF0, b := r.b, c := r.c, d := r.d, e := r.e, h := r.h, l := r.l,
    pc := 0x0100, sp := r.sp, ime := false, ie := 0x00, halted := false, ticks := 0, status := .running,
    t := .cleared, mem := image, cartLog := [], params := p }

/-- The machine right after reset: the launch with nothing listed in memory, INIT_REGS all zero (log 1, log 2) and
the parameters at their defaults. -/
def State.reset : State := State.launch [] .default .default

end Sys2Proof.Machine
end

