-- ==== Sys2Proof/Machine/Ops.lean ====
section
/-! DEFINITION. The named operations: the memory list, the bus, the register file, the stack helper, the tick counter,
and raising a fault. -/

namespace Sys2Proof

/-- A designator is 16-bit exactly when it is AF, BC, DE, HL, SP or PC (R23). -/
def Reg.is16 : Reg → Bool
  | .af | .bc | .de | .hl | .sp | .pc => true
  | .a | .f | .b | .c | .d | .e | .h | .l | .none => false

end Sys2Proof

namespace Sys2Proof.Machine

/-! ## Results of an operation inside a step -/

/-- An operation ends with a value and the next state, or raises a fault in the state reached so far
(00_scope.md R12: nothing after a raise runs, and nothing before it is undone). -/
inductive Res (α : Type) where
  | ok (x : α) (s : State)
  | raise (info : FaultInfo) (s : State)

/-- Go on after an operation that did not raise. -/
def Res.bind {α β : Type} (r : Res α) (k : α → State → Res β) : Res β :=
  match r with
  | .ok x s => k x s
  | .raise info s => .raise info s

/-- What a step answers. -/
abbrev Result := Host.Outcome State Fault Refusal

/-! ## The memory list -/

/-- What an unlisted address reads as. DESIGN CHOICE (log 2), unsafe: the spec gives no initial contents (20_memory.md R62). -/
def Memory.initByte : Byte := 0x00

/-- The byte at an address. -/
def Memory.get : Memory → Nat → Byte
  | [], _ => Memory.initByte
  | (k, v) :: m, a => if k = a then v else Memory.get m a

/-- Take an address out of the list. -/
def Memory.erase : Memory → Nat → Memory
  | [], _ => []
  | (k, v) :: m, a => if k = a then Memory.erase m a else (k, v) :: Memory.erase m a

/-- Put an entry at its place in the rising order, over an entry of the same address. -/
def Memory.insert : Memory → Nat → Byte → Memory
  | [], a, v => [(a, v)]
  | (k, w) :: m, a, v =>
    if k < a then (k, w) :: Memory.insert m a v
    else if k = a then (a, v) :: m
    else (a, v) :: (k, w) :: m

/-- Store a byte, keeping the canonical form. -/
def Memory.set (m : Memory) (a : Nat) (v : Byte) : Memory :=
  if v = Memory.initByte then Memory.erase m a else Memory.insert m a v

/-- The addresses are at least `lo` and strictly rising, and no entry is `initByte`. -/
def Memory.wfFrom : Nat → Memory → Bool
  | _, [] => true
  | lo, (k, v) :: m => decide (lo ≤ k) && decide (v ≠ Memory.initByte) && Memory.wfFrom (k + 1) m

/-- The canonical form. -/
def Memory.wf (m : Memory) : Bool := Memory.wfFrom 0 m

/-! ## Updates of one field -/

/-- `tick(n)` (00_scope.md R13). -/
def State.tick (n : Nat) (s : State) : State := { s with ticks := s.ticks + n }

def State.setPc (v : Word) (s : State) : State := { s with pc := v }

def State.setSp (v : Word) (s : State) : State := { s with sp := v }

def State.setIme (v : Bool) (s : State) : State := { s with ime := v }

def State.setIe (v : Byte) (s : State) : State := { s with ie := v }

/-- Every write to F clears its low nibble (10_state.md R19). -/
def State.setF (v : Byte) (s : State) : State := { s with f := v &&& 0xF0 }

def State.setStatus (v : Status) (s : State) : State := { s with status := v }

def State.setT (v : Transient) (s : State) : State := { s with t := v }

/-- Store a byte in a provider. -/
def State.store (a : Word) (v : Byte) (s : State) : State := { s with mem := s.mem.set a.toNat v }

def State.setCurOpcode (v : Byte) (s : State) : State := s.setT { s.t with curOpcode := v }

def State.setFetched (v : Word) (s : State) : State := s.setT { s.t with fetched := v }

/-- The destination of the instruction is memory at `a`. -/
def State.setMemDest (a : Word) (s : State) : State := s.setT { s.t with destIsMem := true, memDest := a }

/-- The transient state is discarded at the end of a step (10_state.md R29; log 9). -/
def State.discard (s : State) : State := s.setT .cleared

/-! ## The register file (10_state.md R17, R18, R23) -/

/-- `x[r]`, zero-extended when r is 8 bits wide. `none` names no operand; it reads as 0 (log 14). -/
def State.read (r : Reg) (s : State) : Word :=
  match r with
  | .a => zext s.a
  | .f => zext s.f
  | .b => zext s.b
  | .c => zext s.c
  | .d => zext s.d
  | .e => zext s.e
  | .h => zext s.h
  | .l => zext s.l
  | .af => join s.a s.f
  | .bc => join s.b s.c
  | .de => join s.d s.e
  | .hl => join s.h s.l
  | .sp => s.sp
  | .pc => s.pc
  | .none => 0

/-- `x[r] <- v`, cut to r's width. -/
def State.write (r : Reg) (v : Word) (s : State) : State :=
  match r with
  | .a => { s with a := loByte v }
  | .f => s.setF (loByte v)
  | .b => { s with b := loByte v }
  | .c => { s with c := loByte v }
  | .d => { s with d := loByte v }
  | .e => { s with e := loByte v }
  | .h => { s with h := loByte v }
  | .l => { s with l := loByte v }
  | .af => { s with a := hiByte v, f := loByte v &&& 0xF0 }
  | .bc => { s with b := hiByte v, c := loByte v }
  | .de => { s with d := hiByte v, e := loByte v }
  | .hl => { s with h := hiByte v, l := loByte v }
  | .sp => s.setSp v
  | .pc => s.setPc v
  | .none => s

/-! ## The bus (20_memory.md R40 to R51) -/

/-- The ten windows of the address space. -/
inductive Region where
  | rom | vram | cram | wram | echo | oam | unusable | io | hram | ie
deriving DecidableEq, Repr

/-- The window an address falls in. -/
def region (addr : Word) : Region :=
  let a := addr.toNat
  if a ≤ 0x7FFF then .rom
  else if a ≤ 0x9FFF then .vram
  else if a ≤ 0xBFFF then .cram
  else if a ≤ 0xDFFF then .wram
  else if a ≤ 0xFDFF then .echo
  else if a ≤ 0xFE9F then .oam
  else if a ≤ 0xFEFF then .unusable
  else if a ≤ 0xFF7F then .io
  else if a ≤ 0xFFFE then .hram
  else .ie

/-- The windows of the cartridge provider (R42, R44). -/
abbrev CartAddr (addr : Word) : Prop := addr.toNat ≤ 0x7FFF ∨ (0xA000 ≤ addr.toNat ∧ addr.toNat ≤ 0xBFFF)

/-- The address belongs to a cartridge provider other than the reference one. -/
abbrev State.OpenAt (s : State) (addr : Word) : Prop := s.params.cart ≠ .reference ∧ CartAddr addr

/-- A cartridge provider other than the reference one takes note of an access to it (log 3). Every other access leaves the
state as it is. -/
def State.note (s : State) (x : Config.CartAccess) : State :=
  if s.OpenAt x.addr then { s with cartLog := x :: s.cartLog } else s

/-- `CART.read(addr)`: the byte (00_scope.md R8; R61). -/
def State.cartRead (addr : Word) (s : State) : Byte :=
  match s.params.cart with
  | .reference => s.mem.get addr.toNat
  | .other id => Config.cartByte id s.cartLog addr

/-- `CART.write(addr, b)` (00_scope.md R8). The reference provider stores the byte, in either array (R61). -/
def State.cartWrite (addr : Word) (b : Byte) (s : State) : State :=
  match s.params.cart with
  | .reference => s.store addr b
  | .other _ => s.note (.write addr b)

/-- The byte bus read (R40). No read changes the core's own state; a cartridge provider other than the reference one takes
note of a read in its windows (R60; log 3). -/
def busRead (addr : Word) (s : State) : Res Byte :=
  match region addr with
  | .rom | .cram => .ok (s.cartRead addr) (s.note (.read addr))
  | .wram | .hram => .ok (s.mem.get addr.toNat) s
  | .echo | .unusable => .ok 0x00 s
  | .ie => .ok s.ie s
  | .vram | .oam | .io => .raise (.unsupportedRegion addr .read) s

/-- The byte bus write (R41). A write that raises changes nothing (R53). -/
def busWrite (addr : Word) (b : Byte) (s : State) : Res Unit :=
  match region addr with
  | .rom | .cram => .ok () (s.cartWrite addr b)
  | .wram | .hram => .ok () (s.store addr b)
  | .ie => .ok () (s.setIe b)
  | .vram | .echo | .oam | .unusable | .io => .raise (.unsupportedRegion addr (.write b)) s

/-- The low byte first (R54); the second address wraps (R56). -/
def read16 (addr : Word) (s : State) : Res Word :=
  (busRead addr s).bind fun lo s => (busRead (addr + 1) s).bind fun hi s => .ok (join hi lo) s

/-- The high byte first (R55); its address wraps (R56). -/
def write16 (addr : Word) (v : Word) (s : State) : Res Unit :=
  (busWrite (addr + 1) (hiByte v) s).bind fun _ s => busWrite addr (loByte v) s

/-! ## The stack helper (20_memory.md R63 to R66) -/

def push8 (b : Byte) (s : State) : Res Unit :=
  let s := s.setSp (s.sp - 1)
  busWrite s.sp b s

def pop8 (s : State) : Res Byte :=
  (busRead s.sp s).bind fun b s => .ok b (s.setSp (s.sp + 1))

def push16 (v : Word) (s : State) : Res Unit :=
  (push8 (hiByte v) s).bind fun _ s => push8 (loByte v) s

def pop16 (s : State) : Res Word :=
  (pop8 s).bind fun lo s => (pop8 s).bind fun hi s => .ok (join hi lo) s

/-! ## Taking a fault (60_exceptions.md R182)

The core has no trap vector, no saved pc and no handler entry, and nothing returns from a fault (R187, R191). -/

/-- The numeric code of a fault kind (R179). -/
def FaultInfo.code : FaultInfo → Nat
  | .invalidInstruction _ _ => 0
  | .unsupportedRegion _ _ => 1

/-- The state a fault leaves behind: everything done before the raise stays, and the status is Faulted (R182). The
transient state ends with the step. -/
def State.enterFaulted (info : FaultInfo) (s : State) : State := s.discard.setStatus (.faulted info)

/-- The outcome `Fault(kind, info)` of a step that raises in the state `s` (R94, R182; log 7). -/
def takeFault (info : FaultInfo) (s : State) : Result :=
  match info with
  | .invalidInstruction opcode opcodePc => .fault (.invalidInstruction opcode opcodePc (s.enterFaulted info))
  | .unsupportedRegion addr access => .fault (.unsupportedRegion addr access (s.enterFaulted info))

/-- The end of a step: its outcome is `Next` or the fault raised, and the transient state is discarded. -/
def Res.outcome (r : Res Unit) : Result :=
  match r with
  | .ok _ s => .next s.discard
  | .raise info s => takeFault info s

end Sys2Proof.Machine
end

