-- ==== Sys2Proof/Machine/Flags.lean ====
section
/-! DEFINITION. The flags (10_state.md R20 to R22). -/

namespace Sys2Proof

/-- A branch condition on the current flags (R22). -/
def Cond.holds (cond : Cond) (f : Byte) : Bool :=
  match cond with
  | .none => true
  | .z => f.getLsbD 7
  | .nz => !f.getLsbD 7
  | .c => f.getLsbD 4
  | .nc => !f.getLsbD 4

end Sys2Proof

namespace Sys2Proof.Machine

/-- What a flag-setting operation asks of one flag (R21). -/
inductive Directive where
  | force0 | force1 | keep
deriving DecidableEq, Repr

/-- A Boolean given as a directive (R21). -/
def Directive.ofBool (b : Bool) : Directive := if b then .force1 else .force0

/-- One directive on the flag bit `mask` of F. -/
def Directive.apply (d : Directive) (mask f : Byte) : Byte :=
  match d with
  | .force0 => f &&& ~~~mask
  | .force1 => f ||| mask
  | .keep => f

/-- F after the directives for Z (bit 7), N (bit 6), H (bit 5) and C (bit 4). -/
def flagsAfter (z n h c : Directive) (f : Byte) : Byte :=
  c.apply 0x10 (h.apply 0x20 (n.apply 0x40 (z.apply 0x80 f)))

/-- `SetFlags(z, n, h, c)` (R21). -/
def setFlags (z n h c : Directive) (s : State) : State := s.setF (flagsAfter z n h c s.f)

/-- Half-carry of an increment: `(res & 0x0F) == 0` (44_arith_logic.md R167). -/
def incHalfCarry (res : Byte) : Bool := res &&& 0x0F == 0

/-- The flags of the 8-bit INC (R167). -/
def incFlags (res : Byte) (s : State) : State :=
  setFlags (.ofBool (res == 0)) .force0 (.ofBool (incHalfCarry res)) .keep s

/-- The flags of XOR (R171). -/
def xorFlags (res : Byte) (s : State) : State := setFlags (.ofBool (res == 0)) .force0 .force0 .force0 s

/-- The carry out of bit 3 of SP's low byte plus the raw immediate byte, on the unbounded sum (40_step_and_addressing.md R122). -/
def sprHalfCarry (sp : Word) (e : Byte) : Bool := decide (0x10 ≤ (sp &&& 0x0F).toNat + (e &&& 0x0F).toNat)

/-- The carry out of bit 7 of the same sum (R122). -/
def sprCarry (sp : Word) (e : Byte) : Bool := decide (0x100 ≤ (sp &&& 0xFF).toNat + e.toNat)

end Sys2Proof.Machine
end

