-- ==== Sys2Proof/Machine/Operands.lean ====
section
/-! DEFINITION. The addressing-mode resolver (40_step_and_addressing.md R103 to R122). Every mode reads its
immediate before it does anything else, so the immediate is an argument here; reading it, with its ticks and its
faults, is `fetchImm` (Machine/Fetch.lean; log 10). -/

namespace Sys2Proof.Machine

/-- `ind(r)`: the address of a register-indirect operand (R100). -/
def ind (r : Reg) (s : State) : Word := if r = .c then highPage s.c else s.read r

/-- Resolve begins: the descriptor is latched and the operand fields have their reset values (10_state.md R29; log 11). -/
def State.beginResolve (d : Desc) (s : State) : State :=
  s.setT { s.t with curDesc := d, fetched := 0, destIsMem := false, memDest := 0, sprH := false, sprC := false }

/-- Read the byte at `addr` into `t.fetched`. -/
def fetchFrom (addr : Word) (s : State) : Res Unit :=
  (busRead addr s).bind fun b s => .ok () (s.setFetched (zext b))

/-- The resolver for the latched descriptor's mode. `imm` is the immediate, zero-extended when it is one byte. -/
def resolve (imm : Word) (s : State) : Res Unit :=
  let d := s.t.curDesc
  match d.mode with
  | .imp => .ok () s
  | .r => .ok () (s.setFetched (s.read d.r1))
  | .rR => .ok () (s.setFetched (s.read d.r2))
  | .rD8 | .rD16 | .d8 | .d16 => .ok () (s.setFetched imm)
  | .mrR => .ok () ((s.setFetched (s.read d.r2)).setMemDest (ind d.r1 s))
  | .hliR => .ok () (((s.setFetched (s.read d.r2)).setMemDest (s.read .hl)).write .hl (s.read .hl + 1))
  | .hldR => .ok () (((s.setFetched (s.read d.r2)).setMemDest (s.read .hl)).write .hl (s.read .hl - 1))
  | .rMr => fetchFrom (ind d.r2 s) s
  | .rHli => (fetchFrom (s.read .hl) s).bind fun _ s => .ok () (s.write .hl (s.read .hl + 1))
  | .rHld => (fetchFrom (s.read .hl) s).bind fun _ s => .ok () (s.write .hl (s.read .hl - 1))
  | .mrD8 => .ok () ((s.setFetched imm).setMemDest (s.read .hl))
  | .mr => fetchFrom (s.read .hl) (s.setMemDest (s.read .hl))
  | .a16R => .ok () ((s.setMemDest imm).setFetched (s.read d.r2))
  | .rA16 => fetchFrom imm s
  | .a8R => .ok () ((s.setMemDest (highPage (loByte imm))).setFetched (s.read d.r2))
  | .rA8 => .ok () (s.setFetched (highPage (loByte imm)))
  | .hlSpr =>
    .ok () (s.setT { s.t with
      fetched := imm
      sprH := sprHalfCarry s.sp (loByte imm)
      sprC := sprCarry s.sp (loByte imm) })

end Sys2Proof.Machine
end

