-- ==== Sys2Proof/Machine/Handlers.lean ====
section
/-! DEFINITION. The execution handlers (40_step_and_addressing.md R102), each written from its rule, and `runDesc`:
Resolve, then Execute, then the end of the step (R97). -/

namespace Sys2Proof.Machine

/-- LD (41_load.md R127). -/
def handleLd (s : State) : Res Unit :=
  let d := s.t.curDesc
  if d.mode = .hlSpr then
    let s' := setFlags .force0 .force0 (.ofBool s.t.sprH) (.ofBool s.t.sprC) s
    .ok () (s'.write .hl (s'.sp + sext (loByte s'.t.fetched)))
  else if s.t.destIsMem then
    if d.r2.is16 then
      write16 s.t.memDest s.t.fetched (s.tick 1)
    else
      busWrite s.t.memDest (loByte s.t.fetched) s
  else
    .ok () (s.write d.r1 s.t.fetched)

/-- LDH (R147): the direction is the operand that names A. -/
def handleLdh (s : State) : Res Unit :=
  if s.t.curDesc.r1 = .a then
    (busRead s.t.fetched s).bind fun b s => .ok () (s.write .a (zext b))
  else
    busWrite s.t.memDest s.a s

/-- JP, JR and CALL (42_control_transfer.md R150). -/
def handleBranch (s : State) : Res Unit :=
  let d := s.t.curDesc
  let target := if d.kind = .jr then s.pc + sext (loByte s.t.fetched) else s.t.fetched
  if d.cond.holds s.f then
    if d.kind = .call then
      (push16 s.pc s).bind fun _ s => .ok () (s.setPc target)
    else
      .ok () (s.setPc target)
  else
    .ok () s

/-- RET (R158): the conditional forms pay one tick, taken or not. -/
def handleRet (s : State) : Res Unit :=
  let d := s.t.curDesc
  let s := if d.cond = .none then s else s.tick 1
  if d.cond.holds s.f then
    (pop16 s).bind fun v s => .ok () (s.setPc v)
  else
    .ok () s

/-- RETI (R161): IME is set before the return. -/
def handleReti (s : State) : Res Unit :=
  (pop16 (s.setIme true)).bind fun v s => .ok () (s.setPc v)

/-- RST (R162). -/
def handleRst (s : State) : Res Unit :=
  (push16 s.pc s).bind fun _ s => .ok () (s.setPc (s.t.curDesc.param.getD 0))

/-- PUSH (43_stack.md R164). -/
def handlePush (s : State) : Res Unit := push16 s.t.fetched s

/-- POP (R165, R166): POP AF masks F through the write of AF. -/
def handlePop (s : State) : Res Unit :=
  (pop16 s).bind fun v s => .ok () (s.write s.t.curDesc.r1 v)

/-- INC (44_arith_logic.md R167): memory, 16-bit, or an 8-bit register. -/
def handleInc (s : State) : Res Unit :=
  let d := s.t.curDesc
  let res := loByte s.t.fetched + 1
  if s.t.destIsMem then
    (busWrite s.t.memDest res s).bind fun _ s => .ok () (incFlags res s)
  else if d.r1 = .bc ∨ d.r1 = .de ∨ d.r1 = .hl ∨ d.r1 = .sp then
    .ok () ((s.tick 1).write d.r1 (s.t.fetched + 1))
  else
    .ok () (incFlags res (s.write d.r1 (zext res)))

/-- XOR (R171). -/
def handleXor (s : State) : Res Unit :=
  let res := s.a ^^^ loByte s.t.fetched
  .ok () (xorFlags res (s.write .a (zext res)))

/-- DI (45_system.md R176). -/
def handleDi (s : State) : Res Unit := .ok () (s.setIme false)

/-- The sentinel (R177): fatal, never a no-op. -/
def handleNone (s : State) : Res Unit := .raise (.invalidInstruction s.t.curOpcode s.t.opcodePc) s

/-- The dispatch over the kinds (40_step_and_addressing.md R102). NOP does nothing (41_load.md R126). -/
def execute (s : State) : Res Unit :=
  match s.t.curDesc.kind with
  | .nop => .ok () s
  | .ld => handleLd s
  | .ldh => handleLdh s
  | .jp | .jr | .call => handleBranch s
  | .ret => handleRet s
  | .reti => handleReti s
  | .rst => handleRst s
  | .push => handlePush s
  | .pop => handlePop s
  | .inc => handleInc s
  | .xor => handleXor s
  | .di => handleDi s
  | .none => handleNone s

/-- Resolve and Execute one descriptor with its immediate, up to the end of the step (R97). -/
def runDesc (d : Desc) (imm : Word) (s : State) : Result :=
  ((resolve imm (s.beginResolve d)).bind fun _ s => execute s).outcome

end Sys2Proof.Machine
end

