-- ==== Sys2Proof/Machine/Arith.lean ====
section
/-! DEFINITION. Increment and exclusive-or (44_arith_logic.md): one meaning for each instruction.
Each names its descriptor (30_encoding.md section 8) and its immediate; `runDesc` resolves the mode and runs the handler. -/

namespace Sys2Proof.Machine

/-- INC BC (R170). -/
def execIncBC (s : State) : Result :=
  runDesc ⟨.inc, .r, .bc, .none, .none, none⟩ 0 s

/-- INC B (R168). -/
def execIncB (s : State) : Result :=
  runDesc ⟨.inc, .r, .b, .none, .none, none⟩ 0 s

/-- INC C (R168). -/
def execIncC (s : State) : Result :=
  runDesc ⟨.inc, .r, .c, .none, .none, none⟩ 0 s

/-- INC DE (R170). -/
def execIncDE (s : State) : Result :=
  runDesc ⟨.inc, .r, .de, .none, .none, none⟩ 0 s

/-- INC D (R168). -/
def execIncD (s : State) : Result :=
  runDesc ⟨.inc, .r, .d, .none, .none, none⟩ 0 s

/-- INC E (R168). -/
def execIncE (s : State) : Result :=
  runDesc ⟨.inc, .r, .e, .none, .none, none⟩ 0 s

/-- INC HL (R170). -/
def execIncHL (s : State) : Result :=
  runDesc ⟨.inc, .r, .hl, .none, .none, none⟩ 0 s

/-- INC H (R168). -/
def execIncH (s : State) : Result :=
  runDesc ⟨.inc, .r, .h, .none, .none, none⟩ 0 s

/-- INC L (R168). -/
def execIncL (s : State) : Result :=
  runDesc ⟨.inc, .r, .l, .none, .none, none⟩ 0 s

/-- INC SP (R170). -/
def execIncSP (s : State) : Result :=
  runDesc ⟨.inc, .r, .sp, .none, .none, none⟩ 0 s

/-- INC (HL) (R169). -/
def execIncIndHL (s : State) : Result :=
  runDesc ⟨.inc, .mr, .hl, .none, .none, none⟩ 0 s

/-- INC A (R168). -/
def execIncA (s : State) : Result :=
  runDesc ⟨.inc, .r, .a, .none, .none, none⟩ 0 s

/-- XOR B (R172). -/
def execXorB (s : State) : Result :=
  runDesc ⟨.xor, .rR, .a, .b, .none, none⟩ 0 s

/-- XOR C (R172). -/
def execXorC (s : State) : Result :=
  runDesc ⟨.xor, .rR, .a, .c, .none, none⟩ 0 s

/-- XOR D (R172). -/
def execXorD (s : State) : Result :=
  runDesc ⟨.xor, .rR, .a, .d, .none, none⟩ 0 s

/-- XOR E (R172). -/
def execXorE (s : State) : Result :=
  runDesc ⟨.xor, .rR, .a, .e, .none, none⟩ 0 s

/-- XOR H (R172). -/
def execXorH (s : State) : Result :=
  runDesc ⟨.xor, .rR, .a, .h, .none, none⟩ 0 s

/-- XOR L (R172). -/
def execXorL (s : State) : Result :=
  runDesc ⟨.xor, .rR, .a, .l, .none, none⟩ 0 s

/-- XOR (HL) (R173). -/
def execXorIndHL (s : State) : Result :=
  runDesc ⟨.xor, .rMr, .a, .hl, .none, none⟩ 0 s

/-- XOR A (R172). -/
def execXorA (s : State) : Result :=
  runDesc ⟨.xor, .rR, .a, .a, .none, none⟩ 0 s

/-- XOR d8 (R174). -/
def execXorD8 (d8 : Byte) (s : State) : Result :=
  runDesc ⟨.xor, .rD8, .a, .none, .none, none⟩ (zext d8) s

end Sys2Proof.Machine
end

