-- ==== Sys2Proof/Machine/Control.lean ====
section
/-! DEFINITION. Jumps, calls, returns and restarts (42_control_transfer.md): one meaning for each instruction.
Each names its descriptor (30_encoding.md section 8) and its immediate; `runDesc` resolves the mode and runs the handler. -/

namespace Sys2Proof.Machine

/-- JR e8 (R154). -/
def execJrE8 (e8 : Byte) (s : State) : Result :=
  runDesc ⟨.jr, .d8, .none, .none, .none, none⟩ (zext e8) s

/-- JR NZ,e8 (R155). -/
def execJrNZE8 (e8 : Byte) (s : State) : Result :=
  runDesc ⟨.jr, .d8, .none, .none, .nz, none⟩ (zext e8) s

/-- JR Z,e8 (R155). -/
def execJrZE8 (e8 : Byte) (s : State) : Result :=
  runDesc ⟨.jr, .d8, .none, .none, .z, none⟩ (zext e8) s

/-- JR NC,e8 (R155). -/
def execJrNCE8 (e8 : Byte) (s : State) : Result :=
  runDesc ⟨.jr, .d8, .none, .none, .nc, none⟩ (zext e8) s

/-- JR C,e8 (R155). -/
def execJrCE8 (e8 : Byte) (s : State) : Result :=
  runDesc ⟨.jr, .d8, .none, .none, .c, none⟩ (zext e8) s

/-- RET NZ (R160). -/
def execRetNZ (s : State) : Result :=
  runDesc ⟨.ret, .imp, .none, .none, .nz, none⟩ 0 s

/-- JP NZ,a16 (R152). -/
def execJpNZA16 (a16 : Word) (s : State) : Result :=
  runDesc ⟨.jp, .d16, .none, .none, .nz, none⟩ a16 s

/-- JP a16 (R151). -/
def execJpA16 (a16 : Word) (s : State) : Result :=
  runDesc ⟨.jp, .d16, .none, .none, .none, none⟩ a16 s

/-- CALL NZ,a16 (R157). -/
def execCallNZA16 (a16 : Word) (s : State) : Result :=
  runDesc ⟨.call, .d16, .none, .none, .nz, none⟩ a16 s

/-- RST 0x00 (R162). -/
def execRst00 (s : State) : Result :=
  runDesc ⟨.rst, .imp, .none, .none, .none, some 0x0000⟩ 0 s

/-- RET Z (R160). -/
def execRetZ (s : State) : Result :=
  runDesc ⟨.ret, .imp, .none, .none, .z, none⟩ 0 s

/-- RET (R159). -/
def execRet (s : State) : Result :=
  runDesc ⟨.ret, .imp, .none, .none, .none, none⟩ 0 s

/-- JP Z,a16 (R152). -/
def execJpZA16 (a16 : Word) (s : State) : Result :=
  runDesc ⟨.jp, .d16, .none, .none, .z, none⟩ a16 s

/-- CALL Z,a16 (R157). -/
def execCallZA16 (a16 : Word) (s : State) : Result :=
  runDesc ⟨.call, .d16, .none, .none, .z, none⟩ a16 s

/-- CALL a16 (R156). -/
def execCallA16 (a16 : Word) (s : State) : Result :=
  runDesc ⟨.call, .d16, .none, .none, .none, none⟩ a16 s

/-- RST 0x08 (R162). -/
def execRst08 (s : State) : Result :=
  runDesc ⟨.rst, .imp, .none, .none, .none, some 0x0008⟩ 0 s

/-- RET NC (R160). -/
def execRetNC (s : State) : Result :=
  runDesc ⟨.ret, .imp, .none, .none, .nc, none⟩ 0 s

/-- JP NC,a16 (R152). -/
def execJpNCA16 (a16 : Word) (s : State) : Result :=
  runDesc ⟨.jp, .d16, .none, .none, .nc, none⟩ a16 s

/-- CALL NC,a16 (R157). -/
def execCallNCA16 (a16 : Word) (s : State) : Result :=
  runDesc ⟨.call, .d16, .none, .none, .nc, none⟩ a16 s

/-- RST 0x10 (R162). -/
def execRst10 (s : State) : Result :=
  runDesc ⟨.rst, .imp, .none, .none, .none, some 0x0010⟩ 0 s

/-- RET C (R160). -/
def execRetC (s : State) : Result :=
  runDesc ⟨.ret, .imp, .none, .none, .c, none⟩ 0 s

/-- RETI (R161). -/
def execReti (s : State) : Result :=
  runDesc ⟨.reti, .imp, .none, .none, .none, none⟩ 0 s

/-- JP C,a16 (R152). -/
def execJpCA16 (a16 : Word) (s : State) : Result :=
  runDesc ⟨.jp, .d16, .none, .none, .c, none⟩ a16 s

/-- CALL C,a16 (R157). -/
def execCallCA16 (a16 : Word) (s : State) : Result :=
  runDesc ⟨.call, .d16, .none, .none, .c, none⟩ a16 s

/-- RST 0x18 (R162). -/
def execRst18 (s : State) : Result :=
  runDesc ⟨.rst, .imp, .none, .none, .none, some 0x0018⟩ 0 s

/-- RST 0x20 (R162). -/
def execRst20 (s : State) : Result :=
  runDesc ⟨.rst, .imp, .none, .none, .none, some 0x0020⟩ 0 s

/-- JP HL (R153). -/
def execJpHL (s : State) : Result :=
  runDesc ⟨.jp, .r, .hl, .none, .none, none⟩ 0 s

/-- RST 0x28 (R162). -/
def execRst28 (s : State) : Result :=
  runDesc ⟨.rst, .imp, .none, .none, .none, some 0x0028⟩ 0 s

/-- RST 0x30 (R162). -/
def execRst30 (s : State) : Result :=
  runDesc ⟨.rst, .imp, .none, .none, .none, some 0x0030⟩ 0 s

/-- RST 0x38 (R162). -/
def execRst38 (s : State) : Result :=
  runDesc ⟨.rst, .imp, .none, .none, .none, some 0x0038⟩ 0 s

end Sys2Proof.Machine
end

