-- ==== Sys2Proof/Machine/Load.lean ====
section
/-! DEFINITION. NOP, the loads and the I/O loads and stores (41_load.md): one meaning for each instruction.
Each names its descriptor (30_encoding.md section 8) and its immediate; `runDesc` resolves the mode and runs the handler. -/

namespace Sys2Proof.Machine

/-- NOP (R126). -/
def execNop (s : State) : Result :=
  runDesc ⟨.nop, .imp, .none, .none, .none, none⟩ 0 s

/-- LD BC,d16 (R139). -/
def execLdBCD16 (d16 : Word) (s : State) : Result :=
  runDesc ⟨.ld, .rD16, .bc, .none, .none, none⟩ d16 s

/-- LD (BC),A (R134). -/
def execLdIndBCA (s : State) : Result :=
  runDesc ⟨.ld, .mrR, .bc, .a, .none, none⟩ 0 s

/-- LD B,d8 (R131). -/
def execLdBD8 (d8 : Byte) (s : State) : Result :=
  runDesc ⟨.ld, .rD8, .b, .none, .none, none⟩ (zext d8) s

/-- LD (a16),SP (R140). -/
def execLdIndA16SP (a16 : Word) (s : State) : Result :=
  runDesc ⟨.ld, .a16R, .none, .sp, .none, none⟩ a16 s

/-- LD A,(BC) (R133). -/
def execLdAIndBC (s : State) : Result :=
  runDesc ⟨.ld, .rMr, .a, .bc, .none, none⟩ 0 s

/-- LD C,d8 (R131). -/
def execLdCD8 (d8 : Byte) (s : State) : Result :=
  runDesc ⟨.ld, .rD8, .c, .none, .none, none⟩ (zext d8) s

/-- LD DE,d16 (R139). -/
def execLdDED16 (d16 : Word) (s : State) : Result :=
  runDesc ⟨.ld, .rD16, .de, .none, .none, none⟩ d16 s

/-- LD (DE),A (R134). -/
def execLdIndDEA (s : State) : Result :=
  runDesc ⟨.ld, .mrR, .de, .a, .none, none⟩ 0 s

/-- LD D,d8 (R131). -/
def execLdDD8 (d8 : Byte) (s : State) : Result :=
  runDesc ⟨.ld, .rD8, .d, .none, .none, none⟩ (zext d8) s

/-- LD A,(DE) (R133). -/
def execLdAIndDE (s : State) : Result :=
  runDesc ⟨.ld, .rMr, .a, .de, .none, none⟩ 0 s

/-- LD E,d8 (R131). -/
def execLdED8 (d8 : Byte) (s : State) : Result :=
  runDesc ⟨.ld, .rD8, .e, .none, .none, none⟩ (zext d8) s

/-- LD HL,d16 (R139). -/
def execLdHLD16 (d16 : Word) (s : State) : Result :=
  runDesc ⟨.ld, .rD16, .hl, .none, .none, none⟩ d16 s

/-- LD (HL+),A (R137). -/
def execLdIndHLIncA (s : State) : Result :=
  runDesc ⟨.ld, .hliR, .hl, .a, .none, none⟩ 0 s

/-- LD H,d8 (R131). -/
def execLdHD8 (d8 : Byte) (s : State) : Result :=
  runDesc ⟨.ld, .rD8, .h, .none, .none, none⟩ (zext d8) s

/-- LD A,(HL+) (R135). -/
def execLdAIndHLInc (s : State) : Result :=
  runDesc ⟨.ld, .rHli, .a, .hl, .none, none⟩ 0 s

/-- LD L,d8 (R131). -/
def execLdLD8 (d8 : Byte) (s : State) : Result :=
  runDesc ⟨.ld, .rD8, .l, .none, .none, none⟩ (zext d8) s

/-- LD SP,d16 (R139). -/
def execLdSPD16 (d16 : Word) (s : State) : Result :=
  runDesc ⟨.ld, .rD16, .sp, .none, .none, none⟩ d16 s

/-- LD (HL-),A (R138). -/
def execLdIndHLDecA (s : State) : Result :=
  runDesc ⟨.ld, .hldR, .hl, .a, .none, none⟩ 0 s

/-- LD (HL),d8 (R132). -/
def execLdIndHLD8 (d8 : Byte) (s : State) : Result :=
  runDesc ⟨.ld, .mrD8, .hl, .none, .none, none⟩ (zext d8) s

/-- LD A,(HL-) (R136). -/
def execLdAIndHLDec (s : State) : Result :=
  runDesc ⟨.ld, .rHld, .a, .hl, .none, none⟩ 0 s

/-- LD A,d8 (R131). -/
def execLdAD8 (d8 : Byte) (s : State) : Result :=
  runDesc ⟨.ld, .rD8, .a, .none, .none, none⟩ (zext d8) s

/-- LD B,B (R128). -/
def execLdBB (s : State) : Result :=
  runDesc ⟨.ld, .rR, .b, .b, .none, none⟩ 0 s

/-- LD B,C (R128). -/
def execLdBC (s : State) : Result :=
  runDesc ⟨.ld, .rR, .b, .c, .none, none⟩ 0 s

/-- LD B,D (R128). -/
def execLdBD (s : State) : Result :=
  runDesc ⟨.ld, .rR, .b, .d, .none, none⟩ 0 s

/-- LD B,E (R128). -/
def execLdBE (s : State) : Result :=
  runDesc ⟨.ld, .rR, .b, .e, .none, none⟩ 0 s

/-- LD B,H (R128). -/
def execLdBH (s : State) : Result :=
  runDesc ⟨.ld, .rR, .b, .h, .none, none⟩ 0 s

/-- LD B,L (R128). -/
def execLdBL (s : State) : Result :=
  runDesc ⟨.ld, .rR, .b, .l, .none, none⟩ 0 s

/-- LD B,(HL) (R129). -/
def execLdBIndHL (s : State) : Result :=
  runDesc ⟨.ld, .rMr, .b, .hl, .none, none⟩ 0 s

/-- LD B,A (R128). -/
def execLdBA (s : State) : Result :=
  runDesc ⟨.ld, .rR, .b, .a, .none, none⟩ 0 s

/-- LD C,B (R128). -/
def execLdCB (s : State) : Result :=
  runDesc ⟨.ld, .rR, .c, .b, .none, none⟩ 0 s

/-- LD C,C (R128). -/
def execLdCC (s : State) : Result :=
  runDesc ⟨.ld, .rR, .c, .c, .none, none⟩ 0 s

/-- LD C,D (R128). -/
def execLdCD (s : State) : Result :=
  runDesc ⟨.ld, .rR, .c, .d, .none, none⟩ 0 s

/-- LD C,E (R128). -/
def execLdCE (s : State) : Result :=
  runDesc ⟨.ld, .rR, .c, .e, .none, none⟩ 0 s

/-- LD C,H (R128). -/
def execLdCH (s : State) : Result :=
  runDesc ⟨.ld, .rR, .c, .h, .none, none⟩ 0 s

/-- LD C,L (R128). -/
def execLdCL (s : State) : Result :=
  runDesc ⟨.ld, .rR, .c, .l, .none, none⟩ 0 s

/-- LD C,(HL) (R129). -/
def execLdCIndHL (s : State) : Result :=
  runDesc ⟨.ld, .rMr, .c, .hl, .none, none⟩ 0 s

/-- LD C,A (R128). -/
def execLdCA (s : State) : Result :=
  runDesc ⟨.ld, .rR, .c, .a, .none, none⟩ 0 s

/-- LD D,B (R128). -/
def execLdDB (s : State) : Result :=
  runDesc ⟨.ld, .rR, .d, .b, .none, none⟩ 0 s

/-- LD D,C (R128). -/
def execLdDC (s : State) : Result :=
  runDesc ⟨.ld, .rR, .d, .c, .none, none⟩ 0 s

/-- LD D,D (R128). -/
def execLdDD (s : State) : Result :=
  runDesc ⟨.ld, .rR, .d, .d, .none, none⟩ 0 s

/-- LD D,E (R128). -/
def execLdDE (s : State) : Result :=
  runDesc ⟨.ld, .rR, .d, .e, .none, none⟩ 0 s

/-- LD D,H (R128). -/
def execLdDH (s : State) : Result :=
  runDesc ⟨.ld, .rR, .d, .h, .none, none⟩ 0 s

/-- LD D,L (R128). -/
def execLdDL (s : State) : Result :=
  runDesc ⟨.ld, .rR, .d, .l, .none, none⟩ 0 s

/-- LD D,(HL) (R129). -/
def execLdDIndHL (s : State) : Result :=
  runDesc ⟨.ld, .rMr, .d, .hl, .none, none⟩ 0 s

/-- LD D,A (R128). -/
def execLdDA (s : State) : Result :=
  runDesc ⟨.ld, .rR, .d, .a, .none, none⟩ 0 s

/-- LD E,B (R128). -/
def execLdEB (s : State) : Result :=
  runDesc ⟨.ld, .rR, .e, .b, .none, none⟩ 0 s

/-- LD E,C (R128). -/
def execLdEC (s : State) : Result :=
  runDesc ⟨.ld, .rR, .e, .c, .none, none⟩ 0 s

/-- LD E,D (R128). -/
def execLdED (s : State) : Result :=
  runDesc ⟨.ld, .rR, .e, .d, .none, none⟩ 0 s

/-- LD E,E (R128). -/
def execLdEE (s : State) : Result :=
  runDesc ⟨.ld, .rR, .e, .e, .none, none⟩ 0 s

/-- LD E,H (R128). -/
def execLdEH (s : State) : Result :=
  runDesc ⟨.ld, .rR, .e, .h, .none, none⟩ 0 s

/-- LD E,L (R128). -/
def execLdEL (s : State) : Result :=
  runDesc ⟨.ld, .rR, .e, .l, .none, none⟩ 0 s

/-- LD E,(HL) (R129). -/
def execLdEIndHL (s : State) : Result :=
  runDesc ⟨.ld, .rMr, .e, .hl, .none, none⟩ 0 s

/-- LD E,A (R128). -/
def execLdEA (s : State) : Result :=
  runDesc ⟨.ld, .rR, .e, .a, .none, none⟩ 0 s

/-- LD H,B (R128). -/
def execLdHB (s : State) : Result :=
  runDesc ⟨.ld, .rR, .h, .b, .none, none⟩ 0 s

/-- LD H,C (R128). -/
def execLdHC (s : State) : Result :=
  runDesc ⟨.ld, .rR, .h, .c, .none, none⟩ 0 s

/-- LD H,D (R128). -/
def execLdHD (s : State) : Result :=
  runDesc ⟨.ld, .rR, .h, .d, .none, none⟩ 0 s

/-- LD H,E (R128). -/
def execLdHE (s : State) : Result :=
  runDesc ⟨.ld, .rR, .h, .e, .none, none⟩ 0 s

/-- LD H,H (R128). -/
def execLdHH (s : State) : Result :=
  runDesc ⟨.ld, .rR, .h, .h, .none, none⟩ 0 s

/-- LD H,L (R128). -/
def execLdHL (s : State) : Result :=
  runDesc ⟨.ld, .rR, .h, .l, .none, none⟩ 0 s

/-- LD H,(HL) (R129). -/
def execLdHIndHL (s : State) : Result :=
  runDesc ⟨.ld, .rMr, .h, .hl, .none, none⟩ 0 s

/-- LD H,A (R128). -/
def execLdHA (s : State) : Result :=
  runDesc ⟨.ld, .rR, .h, .a, .none, none⟩ 0 s

/-- LD L,B (R128). -/
def execLdLB (s : State) : Result :=
  runDesc ⟨.ld, .rR, .l, .b, .none, none⟩ 0 s

/-- LD L,C (R128). -/
def execLdLC (s : State) : Result :=
  runDesc ⟨.ld, .rR, .l, .c, .none, none⟩ 0 s

/-- LD L,D (R128). -/
def execLdLD (s : State) : Result :=
  runDesc ⟨.ld, .rR, .l, .d, .none, none⟩ 0 s

/-- LD L,E (R128). -/
def execLdLE (s : State) : Result :=
  runDesc ⟨.ld, .rR, .l, .e, .none, none⟩ 0 s

/-- LD L,H (R128). -/
def execLdLH (s : State) : Result :=
  runDesc ⟨.ld, .rR, .l, .h, .none, none⟩ 0 s

/-- LD L,L (R128). -/
def execLdLL (s : State) : Result :=
  runDesc ⟨.ld, .rR, .l, .l, .none, none⟩ 0 s

/-- LD L,(HL) (R129). -/
def execLdLIndHL (s : State) : Result :=
  runDesc ⟨.ld, .rMr, .l, .hl, .none, none⟩ 0 s

/-- LD L,A (R128). -/
def execLdLA (s : State) : Result :=
  runDesc ⟨.ld, .rR, .l, .a, .none, none⟩ 0 s

/-- LD (HL),B (R130). -/
def execLdIndHLB (s : State) : Result :=
  runDesc ⟨.ld, .mrR, .hl, .b, .none, none⟩ 0 s

/-- LD (HL),C (R130). -/
def execLdIndHLC (s : State) : Result :=
  runDesc ⟨.ld, .mrR, .hl, .c, .none, none⟩ 0 s

/-- LD (HL),D (R130). -/
def execLdIndHLD (s : State) : Result :=
  runDesc ⟨.ld, .mrR, .hl, .d, .none, none⟩ 0 s

/-- LD (HL),E (R130). -/
def execLdIndHLE (s : State) : Result :=
  runDesc ⟨.ld, .mrR, .hl, .e, .none, none⟩ 0 s

/-- LD (HL),H (R130). -/
def execLdIndHLH (s : State) : Result :=
  runDesc ⟨.ld, .mrR, .hl, .h, .none, none⟩ 0 s

/-- LD (HL),L (R130). -/
def execLdIndHLL (s : State) : Result :=
  runDesc ⟨.ld, .mrR, .hl, .l, .none, none⟩ 0 s

/-- LD (HL),A (R130). -/
def execLdIndHLA (s : State) : Result :=
  runDesc ⟨.ld, .mrR, .hl, .a, .none, none⟩ 0 s

/-- LD A,B (R128). -/
def execLdAB (s : State) : Result :=
  runDesc ⟨.ld, .rR, .a, .b, .none, none⟩ 0 s

/-- LD A,C (R128). -/
def execLdAC (s : State) : Result :=
  runDesc ⟨.ld, .rR, .a, .c, .none, none⟩ 0 s

/-- LD A,D (R128). -/
def execLdAD (s : State) : Result :=
  runDesc ⟨.ld, .rR, .a, .d, .none, none⟩ 0 s

/-- LD A,E (R128). -/
def execLdAE (s : State) : Result :=
  runDesc ⟨.ld, .rR, .a, .e, .none, none⟩ 0 s

/-- LD A,H (R128). -/
def execLdAH (s : State) : Result :=
  runDesc ⟨.ld, .rR, .a, .h, .none, none⟩ 0 s

/-- LD A,L (R128). -/
def execLdAL (s : State) : Result :=
  runDesc ⟨.ld, .rR, .a, .l, .none, none⟩ 0 s

/-- LD A,(HL) (R129). -/
def execLdAIndHL (s : State) : Result :=
  runDesc ⟨.ld, .rMr, .a, .hl, .none, none⟩ 0 s

/-- LD A,A (R128). -/
def execLdAA (s : State) : Result :=
  runDesc ⟨.ld, .rR, .a, .a, .none, none⟩ 0 s

/-- LDH (a8),A (R148). -/
def execLdhIndA8A (a8 : Byte) (s : State) : Result :=
  runDesc ⟨.ldh, .a8R, .none, .a, .none, none⟩ (zext a8) s

/-- LD (C),A (R143). -/
def execLdIndCA (s : State) : Result :=
  runDesc ⟨.ld, .mrR, .c, .a, .none, none⟩ 0 s

/-- LD (a16),A (R141). -/
def execLdIndA16A (a16 : Word) (s : State) : Result :=
  runDesc ⟨.ld, .a16R, .none, .a, .none, none⟩ a16 s

/-- LDH A,(a8) (R149). -/
def execLdhAIndA8 (a8 : Byte) (s : State) : Result :=
  runDesc ⟨.ldh, .rA8, .a, .none, .none, none⟩ (zext a8) s

/-- LD A,(C) (R144). -/
def execLdAIndC (s : State) : Result :=
  runDesc ⟨.ld, .rMr, .a, .c, .none, none⟩ 0 s

/-- LD HL,SP+e8 (R145). -/
def execLdHLSPe8 (e8 : Byte) (s : State) : Result :=
  runDesc ⟨.ld, .hlSpr, .hl, .sp, .none, none⟩ (zext e8) s

/-- LD SP,HL (R146). -/
def execLdSPHL (s : State) : Result :=
  runDesc ⟨.ld, .rR, .sp, .hl, .none, none⟩ 0 s

/-- LD A,(a16) (R142). -/
def execLdAIndA16 (a16 : Word) (s : State) : Result :=
  runDesc ⟨.ld, .rA16, .a, .none, .none, none⟩ a16 s

end Sys2Proof.Machine
end

