-- ==== Sys2Proof/Machine/Stack.lean ====
section
/-! DEFINITION. Push and pop (43_stack.md): one meaning for each instruction.
Each names its descriptor (30_encoding.md section 8) and its immediate; `runDesc` resolves the mode and runs the handler. -/

namespace Sys2Proof.Machine

/-- POP BC (R165). -/
def execPopBC (s : State) : Result :=
  runDesc ⟨.pop, .imp, .bc, .none, .none, none⟩ 0 s

/-- PUSH BC (R164). -/
def execPushBC (s : State) : Result :=
  runDesc ⟨.push, .r, .bc, .none, .none, none⟩ 0 s

/-- POP DE (R165). -/
def execPopDE (s : State) : Result :=
  runDesc ⟨.pop, .imp, .de, .none, .none, none⟩ 0 s

/-- PUSH DE (R164). -/
def execPushDE (s : State) : Result :=
  runDesc ⟨.push, .r, .de, .none, .none, none⟩ 0 s

/-- POP HL (R165). -/
def execPopHL (s : State) : Result :=
  runDesc ⟨.pop, .imp, .hl, .none, .none, none⟩ 0 s

/-- PUSH HL (R164). -/
def execPushHL (s : State) : Result :=
  runDesc ⟨.push, .r, .hl, .none, .none, none⟩ 0 s

/-- POP AF (R166). -/
def execPopAF (s : State) : Result :=
  runDesc ⟨.pop, .imp, .af, .none, .none, none⟩ 0 s

/-- PUSH AF (R164). -/
def execPushAF (s : State) : Result :=
  runDesc ⟨.push, .r, .af, .none, .none, none⟩ 0 s

end Sys2Proof.Machine
end

