-- ==== Sys2Proof/Machine/System.lean ====
section
/-! DEFINITION. DI and the invalid sentinel (45_system.md): one meaning for each instruction.
Each names its descriptor (30_encoding.md section 8) and its immediate; `runDesc` resolves the mode and runs the handler. -/

namespace Sys2Proof.Machine

/-- DI (R176). -/
def execDi (s : State) : Result :=
  runDesc ⟨.di, .imp, .none, .none, .none, none⟩ 0 s

/-- INVALID (R177): the sentinel reports `t.cur_opcode`, which a step's decode has set to this opcode. -/
def execInvalid (opcode : Byte) (s : State) : Result :=
  runDesc Desc.sentinel 0 (s.setCurOpcode opcode)

end Sys2Proof.Machine
end

