-- ==== Sys2Proof/Machine/Dispatch.lean ====
section
/-! DEFINITION. One arm for each constructor of Instr, in opcode order; each is one call of that instruction's meaning.
`exec` runs what is left of a step once the opcode and the immediates are read: Resolve and Execute
(40_step_and_addressing.md R97, R102; log 10). -/

namespace Sys2Proof.Machine

def exec (i : Instr) (s : State) : Host.Outcome State Fault Refusal :=
  match i with
  | .nop => Sys2Proof.Machine.execNop s
  | .ldBCD16 d16 => Sys2Proof.Machine.execLdBCD16 d16 s
  | .ldIndBCA => Sys2Proof.Machine.execLdIndBCA s
  | .incBC => Sys2Proof.Machine.execIncBC s
  | .incB => Sys2Proof.Machine.execIncB s
  | .ldBD8 d8 => Sys2Proof.Machine.execLdBD8 d8 s
  | .ldIndA16SP a16 => Sys2Proof.Machine.execLdIndA16SP a16 s
  | .ldAIndBC => Sys2Proof.Machine.execLdAIndBC s
  | .incC => Sys2Proof.Machine.execIncC s
  | .ldCD8 d8 => Sys2Proof.Machine.execLdCD8 d8 s
  | .ldDED16 d16 => Sys2Proof.Machine.execLdDED16 d16 s
  | .ldIndDEA => Sys2Proof.Machine.execLdIndDEA s
  | .incDE => Sys2Proof.Machine.execIncDE s
  | .incD => Sys2Proof.Machine.execIncD s
  | .ldDD8 d8 => Sys2Proof.Machine.execLdDD8 d8 s
  | .jrE8 e8 => Sys2Proof.Machine.execJrE8 e8 s
  | .ldAIndDE => Sys2Proof.Machine.execLdAIndDE s
  | .incE => Sys2Proof.Machine.execIncE s
  | .ldED8 d8 => Sys2Proof.Machine.execLdED8 d8 s
  | .jrNZE8 e8 => Sys2Proof.Machine.execJrNZE8 e8 s
  | .ldHLD16 d16 => Sys2Proof.Machine.execLdHLD16 d16 s
  | .ldIndHLIncA => Sys2Proof.Machine.execLdIndHLIncA s
  | .incHL => Sys2Proof.Machine.execIncHL s
  | .incH => Sys2Proof.Machine.execIncH s
  | .ldHD8 d8 => Sys2Proof.Machine.execLdHD8 d8 s
  | .jrZE8 e8 => Sys2Proof.Machine.execJrZE8 e8 s
  | .ldAIndHLInc => Sys2Proof.Machine.execLdAIndHLInc s
  | .incL => Sys2Proof.Machine.execIncL s
  | .ldLD8 d8 => Sys2Proof.Machine.execLdLD8 d8 s
  | .jrNCE8 e8 => Sys2Proof.Machine.execJrNCE8 e8 s
  | .ldSPD16 d16 => Sys2Proof.Machine.execLdSPD16 d16 s
  | .ldIndHLDecA => Sys2Proof.Machine.execLdIndHLDecA s
  | .incSP => Sys2Proof.Machine.execIncSP s
  | .incIndHL => Sys2Proof.Machine.execIncIndHL s
  | .ldIndHLD8 d8 => Sys2Proof.Machine.execLdIndHLD8 d8 s
  | .jrCE8 e8 => Sys2Proof.Machine.execJrCE8 e8 s
  | .ldAIndHLDec => Sys2Proof.Machine.execLdAIndHLDec s
  | .incA => Sys2Proof.Machine.execIncA s
  | .ldAD8 d8 => Sys2Proof.Machine.execLdAD8 d8 s
  | .ldBB => Sys2Proof.Machine.execLdBB s
  | .ldBC => Sys2Proof.Machine.execLdBC s
  | .ldBD => Sys2Proof.Machine.execLdBD s
  | .ldBE => Sys2Proof.Machine.execLdBE s
  | .ldBH => Sys2Proof.Machine.execLdBH s
  | .ldBL => Sys2Proof.Machine.execLdBL s
  | .ldBIndHL => Sys2Proof.Machine.execLdBIndHL s
  | .ldBA => Sys2Proof.Machine.execLdBA s
  | .ldCB => Sys2Proof.Machine.execLdCB s
  | .ldCC => Sys2Proof.Machine.execLdCC s
  | .ldCD => Sys2Proof.Machine.execLdCD s
  | .ldCE => Sys2Proof.Machine.execLdCE s
  | .ldCH => Sys2Proof.Machine.execLdCH s
  | .ldCL => Sys2Proof.Machine.execLdCL s
  | .ldCIndHL => Sys2Proof.Machine.execLdCIndHL s
  | .ldCA => Sys2Proof.Machine.execLdCA s
  | .ldDB => Sys2Proof.Machine.execLdDB s
  | .ldDC => Sys2Proof.Machine.execLdDC s
  | .ldDD => Sys2Proof.Machine.execLdDD s
  | .ldDE => Sys2Proof.Machine.execLdDE s
  | .ldDH => Sys2Proof.Machine.execLdDH s
  | .ldDL => Sys2Proof.Machine.execLdDL s
  | .ldDIndHL => Sys2Proof.Machine.execLdDIndHL s
  | .ldDA => Sys2Proof.Machine.execLdDA s
  | .ldEB => Sys2Proof.Machine.execLdEB s
  | .ldEC => Sys2Proof.Machine.execLdEC s
  | .ldED => Sys2Proof.Machine.execLdED s
  | .ldEE => Sys2Proof.Machine.execLdEE s
  | .ldEH => Sys2Proof.Machine.execLdEH s
  | .ldEL => Sys2Proof.Machine.execLdEL s
  | .ldEIndHL => Sys2Proof.Machine.execLdEIndHL s
  | .ldEA => Sys2Proof.Machine.execLdEA s
  | .ldHB => Sys2Proof.Machine.execLdHB s
  | .ldHC => Sys2Proof.Machine.execLdHC s
  | .ldHD => Sys2Proof.Machine.execLdHD s
  | .ldHE => Sys2Proof.Machine.execLdHE s
  | .ldHH => Sys2Proof.Machine.execLdHH s
  | .ldHL => Sys2Proof.Machine.execLdHL s
  | .ldHIndHL => Sys2Proof.Machine.execLdHIndHL s
  | .ldHA => Sys2Proof.Machine.execLdHA s
  | .ldLB => Sys2Proof.Machine.execLdLB s
  | .ldLC => Sys2Proof.Machine.execLdLC s
  | .ldLD => Sys2Proof.Machine.execLdLD s
  | .ldLE => Sys2Proof.Machine.execLdLE s
  | .ldLH => Sys2Proof.Machine.execLdLH s
  | .ldLL => Sys2Proof.Machine.execLdLL s
  | .ldLIndHL => Sys2Proof.Machine.execLdLIndHL s
  | .ldLA => Sys2Proof.Machine.execLdLA s
  | .ldIndHLB => Sys2Proof.Machine.execLdIndHLB s
  | .ldIndHLC => Sys2Proof.Machine.execLdIndHLC s
  | .ldIndHLD => Sys2Proof.Machine.execLdIndHLD s
  | .ldIndHLE => Sys2Proof.Machine.execLdIndHLE s
  | .ldIndHLH => Sys2Proof.Machine.execLdIndHLH s
  | .ldIndHLL => Sys2Proof.Machine.execLdIndHLL s
  | .ldIndHLA => Sys2Proof.Machine.execLdIndHLA s
  | .ldAB => Sys2Proof.Machine.execLdAB s
  | .ldAC => Sys2Proof.Machine.execLdAC s
  | .ldAD => Sys2Proof.Machine.execLdAD s
  | .ldAE => Sys2Proof.Machine.execLdAE s
  | .ldAH => Sys2Proof.Machine.execLdAH s
  | .ldAL => Sys2Proof.Machine.execLdAL s
  | .ldAIndHL => Sys2Proof.Machine.execLdAIndHL s
  | .ldAA => Sys2Proof.Machine.execLdAA s
  | .xorB => Sys2Proof.Machine.execXorB s
  | .xorC => Sys2Proof.Machine.execXorC s
  | .xorD => Sys2Proof.Machine.execXorD s
  | .xorE => Sys2Proof.Machine.execXorE s
  | .xorH => Sys2Proof.Machine.execXorH s
  | .xorL => Sys2Proof.Machine.execXorL s
  | .xorIndHL => Sys2Proof.Machine.execXorIndHL s
  | .xorA => Sys2Proof.Machine.execXorA s
  | .retNZ => Sys2Proof.Machine.execRetNZ s
  | .popBC => Sys2Proof.Machine.execPopBC s
  | .jpNZA16 a16 => Sys2Proof.Machine.execJpNZA16 a16 s
  | .jpA16 a16 => Sys2Proof.Machine.execJpA16 a16 s
  | .callNZA16 a16 => Sys2Proof.Machine.execCallNZA16 a16 s
  | .pushBC => Sys2Proof.Machine.execPushBC s
  | .rst00 => Sys2Proof.Machine.execRst00 s
  | .retZ => Sys2Proof.Machine.execRetZ s
  | .ret => Sys2Proof.Machine.execRet s
  | .jpZA16 a16 => Sys2Proof.Machine.execJpZA16 a16 s
  | .callZA16 a16 => Sys2Proof.Machine.execCallZA16 a16 s
  | .callA16 a16 => Sys2Proof.Machine.execCallA16 a16 s
  | .rst08 => Sys2Proof.Machine.execRst08 s
  | .retNC => Sys2Proof.Machine.execRetNC s
  | .popDE => Sys2Proof.Machine.execPopDE s
  | .jpNCA16 a16 => Sys2Proof.Machine.execJpNCA16 a16 s
  | .callNCA16 a16 => Sys2Proof.Machine.execCallNCA16 a16 s
  | .pushDE => Sys2Proof.Machine.execPushDE s
  | .rst10 => Sys2Proof.Machine.execRst10 s
  | .retC => Sys2Proof.Machine.execRetC s
  | .reti => Sys2Proof.Machine.execReti s
  | .jpCA16 a16 => Sys2Proof.Machine.execJpCA16 a16 s
  | .callCA16 a16 => Sys2Proof.Machine.execCallCA16 a16 s
  | .rst18 => Sys2Proof.Machine.execRst18 s
  | .ldhIndA8A a8 => Sys2Proof.Machine.execLdhIndA8A a8 s
  | .popHL => Sys2Proof.Machine.execPopHL s
  | .ldIndCA => Sys2Proof.Machine.execLdIndCA s
  | .pushHL => Sys2Proof.Machine.execPushHL s
  | .rst20 => Sys2Proof.Machine.execRst20 s
  | .jpHL => Sys2Proof.Machine.execJpHL s
  | .ldIndA16A a16 => Sys2Proof.Machine.execLdIndA16A a16 s
  | .xorD8 d8 => Sys2Proof.Machine.execXorD8 d8 s
  | .rst28 => Sys2Proof.Machine.execRst28 s
  | .ldhAIndA8 a8 => Sys2Proof.Machine.execLdhAIndA8 a8 s
  | .popAF => Sys2Proof.Machine.execPopAF s
  | .ldAIndC => Sys2Proof.Machine.execLdAIndC s
  | .di => Sys2Proof.Machine.execDi s
  | .pushAF => Sys2Proof.Machine.execPushAF s
  | .rst30 => Sys2Proof.Machine.execRst30 s
  | .ldHLSPe8 e8 => Sys2Proof.Machine.execLdHLSPe8 e8 s
  | .ldSPHL => Sys2Proof.Machine.execLdSPHL s
  | .ldAIndA16 a16 => Sys2Proof.Machine.execLdAIndA16 a16 s
  | .rst38 => Sys2Proof.Machine.execRst38 s
  | .invalid opcode => Sys2Proof.Machine.execInvalid opcode s

end Sys2Proof.Machine
end

