-- ==== Sys2Proof/WellFormed.lean ====
section
/-! DEFINITION. When an instruction is well formed. The one constructor with a side condition is `invalid`: its
opcode is unmapped (30_encoding.md R88). Every immediate takes every value (R79 to R82). -/

namespace Sys2Proof

/-- The 103 unmapped opcodes, as R88 lists them. -/
def unmappedOpcodes : List Byte :=
  [0x05, 0x07, 0x09, 0x0B, 0x0D, 0x0F, 0x10, 0x15, 0x17, 0x19, 0x1B, 0x1D, 0x1F] ++
  [0x25, 0x27, 0x29, 0x2B, 0x2D, 0x2F, 0x35, 0x37, 0x39, 0x3B, 0x3D, 0x3F, 0x76] ++
  [0x80, 0x81, 0x82, 0x83, 0x84, 0x85, 0x86, 0x87, 0x88, 0x89, 0x8A, 0x8B, 0x8C] ++
  [0x8D, 0x8E, 0x8F, 0x90, 0x91, 0x92, 0x93, 0x94, 0x95, 0x96, 0x97, 0x98, 0x99] ++
  [0x9A, 0x9B, 0x9C, 0x9D, 0x9E, 0x9F, 0xA0, 0xA1, 0xA2, 0xA3, 0xA4, 0xA5, 0xA6] ++
  [0xA7, 0xB0, 0xB1, 0xB2, 0xB3, 0xB4, 0xB5, 0xB6, 0xB7, 0xB8, 0xB9, 0xBA, 0xBB] ++
  [0xBC, 0xBD, 0xBE, 0xBF, 0xC6, 0xCB, 0xCE, 0xD3, 0xD6, 0xDB, 0xDD, 0xDE, 0xE3] ++
  [0xE4, 0xE6, 0xE8, 0xEB, 0xEC, 0xED, 0xF4, 0xF6, 0xFB, 0xFC, 0xFD, 0xFE]

/-- The instruction can be encoded: an `invalid` names an unmapped opcode. -/
def Instr.wf : Instr → Bool
  | .invalid opcode => unmappedOpcodes.contains opcode
  | .nop | .ldBCD16 _ | .ldIndBCA | .incBC | .incB | .ldBD8 _ | .ldIndA16SP _ | .ldAIndBC
  | .incC | .ldCD8 _ | .ldDED16 _ | .ldIndDEA | .incDE | .incD | .ldDD8 _ | .jrE8 _
  | .ldAIndDE | .incE | .ldED8 _ | .jrNZE8 _ | .ldHLD16 _ | .ldIndHLIncA | .incHL | .incH
  | .ldHD8 _ | .jrZE8 _ | .ldAIndHLInc | .incL | .ldLD8 _ | .jrNCE8 _ | .ldSPD16 _ | .ldIndHLDecA
  | .incSP | .incIndHL | .ldIndHLD8 _ | .jrCE8 _ | .ldAIndHLDec | .incA | .ldAD8 _ | .ldBB
  | .ldBC | .ldBD | .ldBE | .ldBH | .ldBL | .ldBIndHL | .ldBA | .ldCB
  | .ldCC | .ldCD | .ldCE | .ldCH | .ldCL | .ldCIndHL | .ldCA | .ldDB
  | .ldDC | .ldDD | .ldDE | .ldDH | .ldDL | .ldDIndHL | .ldDA | .ldEB
  | .ldEC | .ldED | .ldEE | .ldEH | .ldEL | .ldEIndHL | .ldEA | .ldHB
  | .ldHC | .ldHD | .ldHE | .ldHH | .ldHL | .ldHIndHL | .ldHA | .ldLB
  | .ldLC | .ldLD | .ldLE | .ldLH | .ldLL | .ldLIndHL | .ldLA | .ldIndHLB
  | .ldIndHLC | .ldIndHLD | .ldIndHLE | .ldIndHLH | .ldIndHLL | .ldIndHLA | .ldAB | .ldAC
  | .ldAD | .ldAE | .ldAH | .ldAL | .ldAIndHL | .ldAA | .xorB | .xorC
  | .xorD | .xorE | .xorH | .xorL | .xorIndHL | .xorA | .retNZ | .popBC
  | .jpNZA16 _ | .jpA16 _ | .callNZA16 _ | .pushBC | .rst00 | .retZ | .ret | .jpZA16 _
  | .callZA16 _ | .callA16 _ | .rst08 | .retNC | .popDE | .jpNCA16 _ | .callNCA16 _ | .pushDE
  | .rst10 | .retC | .reti | .jpCA16 _ | .callCA16 _ | .rst18 | .ldhIndA8A _ | .popHL
  | .ldIndCA | .pushHL | .rst20 | .jpHL | .ldIndA16A _ | .xorD8 _ | .rst28 | .ldhAIndA8 _
  | .popAF | .ldAIndC | .di | .pushAF | .rst30 | .ldHLSPe8 _ | .ldSPHL | .ldAIndA16 _
  | .rst38 => true

end Sys2Proof
end

