-- ==== Sys2Proof/Decode.lean ====
section
/-! DEFINITION. The instruction table (30_encoding.md sections 7 and 8), the decoder, and after it the encoder.
The table is the authoritative decode (R78): a decoder looks the opcode byte up in it. -/

namespace Sys2Proof

/-- The immediate bytes a mode reads (R75), as the format that holds them. -/
def Mode.format : Mode → Format
  | .imp | .r | .rR | .rMr | .mrR | .rHli | .rHld | .hliR | .hldR | .mr => .op
  | .rD8 | .mrD8 | .d8 | .a8R | .rA8 | .hlSpr => .opImm8
  | .rD16 | .d16 | .a16R | .rA16 => .opImm16

/-- The descriptor of each instruction: the rows of 30_encoding.md section 8, in opcode order. -/
def Instr.desc : Instr → Desc
  | .nop => ⟨.nop, .imp, .none, .none, .none, none⟩
  | .ldBCD16 _ => ⟨.ld, .rD16, .bc, .none, .none, none⟩
  | .ldIndBCA => ⟨.ld, .mrR, .bc, .a, .none, none⟩
  | .incBC => ⟨.inc, .r, .bc, .none, .none, none⟩
  | .incB => ⟨.inc, .r, .b, .none, .none, none⟩
  | .ldBD8 _ => ⟨.ld, .rD8, .b, .none, .none, none⟩
  | .ldIndA16SP _ => ⟨.ld, .a16R, .none, .sp, .none, none⟩
  | .ldAIndBC => ⟨.ld, .rMr, .a, .bc, .none, none⟩
  | .incC => ⟨.inc, .r, .c, .none, .none, none⟩
  | .ldCD8 _ => ⟨.ld, .rD8, .c, .none, .none, none⟩
  | .ldDED16 _ => ⟨.ld, .rD16, .de, .none, .none, none⟩
  | .ldIndDEA => ⟨.ld, .mrR, .de, .a, .none, none⟩
  | .incDE => ⟨.inc, .r, .de, .none, .none, none⟩
  | .incD => ⟨.inc, .r, .d, .none, .none, none⟩
  | .ldDD8 _ => ⟨.ld, .rD8, .d, .none, .none, none⟩
  | .jrE8 _ => ⟨.jr, .d8, .none, .none, .none, none⟩
  | .ldAIndDE => ⟨.ld, .rMr, .a, .de, .none, none⟩
  | .incE => ⟨.inc, .r, .e, .none, .none, none⟩
  | .ldED8 _ => ⟨.ld, .rD8, .e, .none, .none, none⟩
  | .jrNZE8 _ => ⟨.jr, .d8, .none, .none, .nz, none⟩
  | .ldHLD16 _ => ⟨.ld, .rD16, .hl, .none, .none, none⟩
  | .ldIndHLIncA => ⟨.ld, .hliR, .hl, .a, .none, none⟩
  | .incHL => ⟨.inc, .r, .hl, .none, .none, none⟩
  | .incH => ⟨.inc, .r, .h, .none, .none, none⟩
  | .ldHD8 _ => ⟨.ld, .rD8, .h, .none, .none, none⟩
  | .jrZE8 _ => ⟨.jr, .d8, .none, .none, .z, none⟩
  | .ldAIndHLInc => ⟨.ld, .rHli, .a, .hl, .none, none⟩
  | .incL => ⟨.inc, .r, .l, .none, .none, none⟩
  | .ldLD8 _ => ⟨.ld, .rD8, .l, .none, .none, none⟩
  | .jrNCE8 _ => ⟨.jr, .d8, .none, .none, .nc, none⟩
  | .ldSPD16 _ => ⟨.ld, .rD16, .sp, .none, .none, none⟩
  | .ldIndHLDecA => ⟨.ld, .hldR, .hl, .a, .none, none⟩
  | .incSP => ⟨.inc, .r, .sp, .none, .none, none⟩
  | .incIndHL => ⟨.inc, .mr, .hl, .none, .none, none⟩
  | .ldIndHLD8 _ => ⟨.ld, .mrD8, .hl, .none, .none, none⟩
  | .jrCE8 _ => ⟨.jr, .d8, .none, .none, .c, none⟩
  | .ldAIndHLDec => ⟨.ld, .rHld, .a, .hl, .none, none⟩
  | .incA => ⟨.inc, .r, .a, .none, .none, none⟩
  | .ldAD8 _ => ⟨.ld, .rD8, .a, .none, .none, none⟩
  | .ldBB => ⟨.ld, .rR, .b, .b, .none, none⟩
  | .ldBC => ⟨.ld, .rR, .b, .c, .none, none⟩
  | .ldBD => ⟨.ld, .rR, .b, .d, .none, none⟩
  | .ldBE => ⟨.ld, .rR, .b, .e, .none, none⟩
  | .ldBH => ⟨.ld, .rR, .b, .h, .none, none⟩
  | .ldBL => ⟨.ld, .rR, .b, .l, .none, none⟩
  | .ldBIndHL => ⟨.ld, .rMr, .b, .hl, .none, none⟩
  | .ldBA => ⟨.ld, .rR, .b, .a, .none, none⟩
  | .ldCB => ⟨.ld, .rR, .c, .b, .none, none⟩
  | .ldCC => ⟨.ld, .rR, .c, .c, .none, none⟩
  | .ldCD => ⟨.ld, .rR, .c, .d, .none, none⟩
  | .ldCE => ⟨.ld, .rR, .c, .e, .none, none⟩
  | .ldCH => ⟨.ld, .rR, .c, .h, .none, none⟩
  | .ldCL => ⟨.ld, .rR, .c, .l, .none, none⟩
  | .ldCIndHL => ⟨.ld, .rMr, .c, .hl, .none, none⟩
  | .ldCA => ⟨.ld, .rR, .c, .a, .none, none⟩
  | .ldDB => ⟨.ld, .rR, .d, .b, .none, none⟩
  | .ldDC => ⟨.ld, .rR, .d, .c, .none, none⟩
  | .ldDD => ⟨.ld, .rR, .d, .d, .none, none⟩
  | .ldDE => ⟨.ld, .rR, .d, .e, .none, none⟩
  | .ldDH => ⟨.ld, .rR, .d, .h, .none, none⟩
  | .ldDL => ⟨.ld, .rR, .d, .l, .none, none⟩
  | .ldDIndHL => ⟨.ld, .rMr, .d, .hl, .none, none⟩
  | .ldDA => ⟨.ld, .rR, .d, .a, .none, none⟩
  | .ldEB => ⟨.ld, .rR, .e, .b, .none, none⟩
  | .ldEC => ⟨.ld, .rR, .e, .c, .none, none⟩
  | .ldED => ⟨.ld, .rR, .e, .d, .none, none⟩
  | .ldEE => ⟨.ld, .rR, .e, .e, .none, none⟩
  | .ldEH => ⟨.ld, .rR, .e, .h, .none, none⟩
  | .ldEL => ⟨.ld, .rR, .e, .l, .none, none⟩
  | .ldEIndHL => ⟨.ld, .rMr, .e, .hl, .none, none⟩
  | .ldEA => ⟨.ld, .rR, .e, .a, .none, none⟩
  | .ldHB => ⟨.ld, .rR, .h, .b, .none, none⟩
  | .ldHC => ⟨.ld, .rR, .h, .c, .none, none⟩
  | .ldHD => ⟨.ld, .rR, .h, .d, .none, none⟩
  | .ldHE => ⟨.ld, .rR, .h, .e, .none, none⟩
  | .ldHH => ⟨.ld, .rR, .h, .h, .none, none⟩
  | .ldHL => ⟨.ld, .rR, .h, .l, .none, none⟩
  | .ldHIndHL => ⟨.ld, .rMr, .h, .hl, .none, none⟩
  | .ldHA => ⟨.ld, .rR, .h, .a, .none, none⟩
  | .ldLB => ⟨.ld, .rR, .l, .b, .none, none⟩
  | .ldLC => ⟨.ld, .rR, .l, .c, .none, none⟩
  | .ldLD => ⟨.ld, .rR, .l, .d, .none, none⟩
  | .ldLE => ⟨.ld, .rR, .l, .e, .none, none⟩
  | .ldLH => ⟨.ld, .rR, .l, .h, .none, none⟩
  | .ldLL => ⟨.ld, .rR, .l, .l, .none, none⟩
  | .ldLIndHL => ⟨.ld, .rMr, .l, .hl, .none, none⟩
  | .ldLA => ⟨.ld, .rR, .l, .a, .none, none⟩
  | .ldIndHLB => ⟨.ld, .mrR, .hl, .b, .none, none⟩
  | .ldIndHLC => ⟨.ld, .mrR, .hl, .c, .none, none⟩
  | .ldIndHLD => ⟨.ld, .mrR, .hl, .d, .none, none⟩
  | .ldIndHLE => ⟨.ld, .mrR, .hl, .e, .none, none⟩
  | .ldIndHLH => ⟨.ld, .mrR, .hl, .h, .none, none⟩
  | .ldIndHLL => ⟨.ld, .mrR, .hl, .l, .none, none⟩
  | .ldIndHLA => ⟨.ld, .mrR, .hl, .a, .none, none⟩
  | .ldAB => ⟨.ld, .rR, .a, .b, .none, none⟩
  | .ldAC => ⟨.ld, .rR, .a, .c, .none, none⟩
  | .ldAD => ⟨.ld, .rR, .a, .d, .none, none⟩
  | .ldAE => ⟨.ld, .rR, .a, .e, .none, none⟩
  | .ldAH => ⟨.ld, .rR, .a, .h, .none, none⟩
  | .ldAL => ⟨.ld, .rR, .a, .l, .none, none⟩
  | .ldAIndHL => ⟨.ld, .rMr, .a, .hl, .none, none⟩
  | .ldAA => ⟨.ld, .rR, .a, .a, .none, none⟩
  | .xorB => ⟨.xor, .rR, .a, .b, .none, none⟩
  | .xorC => ⟨.xor, .rR, .a, .c, .none, none⟩
  | .xorD => ⟨.xor, .rR, .a, .d, .none, none⟩
  | .xorE => ⟨.xor, .rR, .a, .e, .none, none⟩
  | .xorH => ⟨.xor, .rR, .a, .h, .none, none⟩
  | .xorL => ⟨.xor, .rR, .a, .l, .none, none⟩
  | .xorIndHL => ⟨.xor, .rMr, .a, .hl, .none, none⟩
  | .xorA => ⟨.xor, .rR, .a, .a, .none, none⟩
  | .retNZ => ⟨.ret, .imp, .none, .none, .nz, none⟩
  | .popBC => ⟨.pop, .imp, .bc, .none, .none, none⟩
  | .jpNZA16 _ => ⟨.jp, .d16, .none, .none, .nz, none⟩
  | .jpA16 _ => ⟨.jp, .d16, .none, .none, .none, none⟩
  | .callNZA16 _ => ⟨.call, .d16, .none, .none, .nz, none⟩
  | .pushBC => ⟨.push, .r, .bc, .none, .none, none⟩
  | .rst00 => ⟨.rst, .imp, .none, .none, .none, some 0x0000⟩
  | .retZ => ⟨.ret, .imp, .none, .none, .z, none⟩
  | .ret => ⟨.ret, .imp, .none, .none, .none, none⟩
  | .jpZA16 _ => ⟨.jp, .d16, .none, .none, .z, none⟩
  | .callZA16 _ => ⟨.call, .d16, .none, .none, .z, none⟩
  | .callA16 _ => ⟨.call, .d16, .none, .none, .none, none⟩
  | .rst08 => ⟨.rst, .imp, .none, .none, .none, some 0x0008⟩
  | .retNC => ⟨.ret, .imp, .none, .none, .nc, none⟩
  | .popDE => ⟨.pop, .imp, .de, .none, .none, none⟩
  | .jpNCA16 _ => ⟨.jp, .d16, .none, .none, .nc, none⟩
  | .callNCA16 _ => ⟨.call, .d16, .none, .none, .nc, none⟩
  | .pushDE => ⟨.push, .r, .de, .none, .none, none⟩
  | .rst10 => ⟨.rst, .imp, .none, .none, .none, some 0x0010⟩
  | .retC => ⟨.ret, .imp, .none, .none, .c, none⟩
  | .reti => ⟨.reti, .imp, .none, .none, .none, none⟩
  | .jpCA16 _ => ⟨.jp, .d16, .none, .none, .c, none⟩
  | .callCA16 _ => ⟨.call, .d16, .none, .none, .c, none⟩
  | .rst18 => ⟨.rst, .imp, .none, .none, .none, some 0x0018⟩
  | .ldhIndA8A _ => ⟨.ldh, .a8R, .none, .a, .none, none⟩
  | .popHL => ⟨.pop, .imp, .hl, .none, .none, none⟩
  | .ldIndCA => ⟨.ld, .mrR, .c, .a, .none, none⟩
  | .pushHL => ⟨.push, .r, .hl, .none, .none, none⟩
  | .rst20 => ⟨.rst, .imp, .none, .none, .none, some 0x0020⟩
  | .jpHL => ⟨.jp, .r, .hl, .none, .none, none⟩
  | .ldIndA16A _ => ⟨.ld, .a16R, .none, .a, .none, none⟩
  | .xorD8 _ => ⟨.xor, .rD8, .a, .none, .none, none⟩
  | .rst28 => ⟨.rst, .imp, .none, .none, .none, some 0x0028⟩
  | .ldhAIndA8 _ => ⟨.ldh, .rA8, .a, .none, .none, none⟩
  | .popAF => ⟨.pop, .imp, .af, .none, .none, none⟩
  | .ldAIndC => ⟨.ld, .rMr, .a, .c, .none, none⟩
  | .di => ⟨.di, .imp, .none, .none, .none, none⟩
  | .pushAF => ⟨.push, .r, .af, .none, .none, none⟩
  | .rst30 => ⟨.rst, .imp, .none, .none, .none, some 0x0030⟩
  | .ldHLSPe8 _ => ⟨.ld, .hlSpr, .hl, .sp, .none, none⟩
  | .ldSPHL => ⟨.ld, .rR, .sp, .hl, .none, none⟩
  | .ldAIndA16 _ => ⟨.ld, .rA16, .a, .none, .none, none⟩
  | .rst38 => ⟨.rst, .imp, .none, .none, .none, some 0x0038⟩
  | .invalid _ => Desc.sentinel

/-- An entry of the opcode map: the instruction, waiting for its immediate. -/
inductive Row where
  | op0 (i : Instr)
  | op1 (mk : Byte → Instr)
  | op2 (mk : Word → Instr)
  | unmapped

/-- Row 0x of the opcode map (30_encoding.md section 7). -/
def mapRow0 : List Row :=
  [.op0 .nop, .op2 .ldBCD16, .op0 .ldIndBCA, .op0 .incBC, .op0 .incB, .unmapped, .op1 .ldBD8, .unmapped,
   .op2 .ldIndA16SP, .unmapped, .op0 .ldAIndBC, .unmapped, .op0 .incC, .unmapped, .op1 .ldCD8, .unmapped]

/-- Row 1x of the opcode map (30_encoding.md section 7). -/
def mapRow1 : List Row :=
  [.unmapped, .op2 .ldDED16, .op0 .ldIndDEA, .op0 .incDE, .op0 .incD, .unmapped, .op1 .ldDD8, .unmapped,
   .op1 .jrE8, .unmapped, .op0 .ldAIndDE, .unmapped, .op0 .incE, .unmapped, .op1 .ldED8, .unmapped]

/-- Row 2x of the opcode map (30_encoding.md section 7). -/
def mapRow2 : List Row :=
  [.op1 .jrNZE8, .op2 .ldHLD16, .op0 .ldIndHLIncA, .op0 .incHL, .op0 .incH, .unmapped, .op1 .ldHD8, .unmapped,
   .op1 .jrZE8, .unmapped, .op0 .ldAIndHLInc, .unmapped, .op0 .incL, .unmapped, .op1 .ldLD8, .unmapped]

/-- Row 3x of the opcode map (30_encoding.md section 7). -/
def mapRow3 : List Row :=
  [.op1 .jrNCE8, .op2 .ldSPD16, .op0 .ldIndHLDecA, .op0 .incSP, .op0 .incIndHL, .unmapped, .op1 .ldIndHLD8, .unmapped,
   .op1 .jrCE8, .unmapped, .op0 .ldAIndHLDec, .unmapped, .op0 .incA, .unmapped, .op1 .ldAD8, .unmapped]

/-- Row 4x of the opcode map (30_encoding.md section 7). -/
def mapRow4 : List Row :=
  [.op0 .ldBB, .op0 .ldBC, .op0 .ldBD, .op0 .ldBE, .op0 .ldBH, .op0 .ldBL, .op0 .ldBIndHL, .op0 .ldBA,
   .op0 .ldCB, .op0 .ldCC, .op0 .ldCD, .op0 .ldCE, .op0 .ldCH, .op0 .ldCL, .op0 .ldCIndHL, .op0 .ldCA]

/-- Row 5x of the opcode map (30_encoding.md section 7). -/
def mapRow5 : List Row :=
  [.op0 .ldDB, .op0 .ldDC, .op0 .ldDD, .op0 .ldDE, .op0 .ldDH, .op0 .ldDL, .op0 .ldDIndHL, .op0 .ldDA,
   .op0 .ldEB, .op0 .ldEC, .op0 .ldED, .op0 .ldEE, .op0 .ldEH, .op0 .ldEL, .op0 .ldEIndHL, .op0 .ldEA]

/-- Row 6x of the opcode map (30_encoding.md section 7). -/
def mapRow6 : List Row :=
  [.op0 .ldHB, .op0 .ldHC, .op0 .ldHD, .op0 .ldHE, .op0 .ldHH, .op0 .ldHL, .op0 .ldHIndHL, .op0 .ldHA,
   .op0 .ldLB, .op0 .ldLC, .op0 .ldLD, .op0 .ldLE, .op0 .ldLH, .op0 .ldLL, .op0 .ldLIndHL, .op0 .ldLA]

/-- Row 7x of the opcode map (30_encoding.md section 7). -/
def mapRow7 : List Row :=
  [.op0 .ldIndHLB, .op0 .ldIndHLC, .op0 .ldIndHLD, .op0 .ldIndHLE, .op0 .ldIndHLH, .op0 .ldIndHLL, .unmapped, .op0 .ldIndHLA,
   .op0 .ldAB, .op0 .ldAC, .op0 .ldAD, .op0 .ldAE, .op0 .ldAH, .op0 .ldAL, .op0 .ldAIndHL, .op0 .ldAA]

/-- Row 8x of the opcode map (30_encoding.md section 7). -/
def mapRow8 : List Row :=
  [.unmapped, .unmapped, .unmapped, .unmapped, .unmapped, .unmapped, .unmapped, .unmapped,
   .unmapped, .unmapped, .unmapped, .unmapped, .unmapped, .unmapped, .unmapped, .unmapped]

/-- Row 9x of the opcode map (30_encoding.md section 7). -/
def mapRow9 : List Row :=
  [.unmapped, .unmapped, .unmapped, .unmapped, .unmapped, .unmapped, .unmapped, .unmapped,
   .unmapped, .unmapped, .unmapped, .unmapped, .unmapped, .unmapped, .unmapped, .unmapped]

/-- Row Ax of the opcode map (30_encoding.md section 7). -/
def mapRowA : List Row :=
  [.unmapped, .unmapped, .unmapped, .unmapped, .unmapped, .unmapped, .unmapped, .unmapped,
   .op0 .xorB, .op0 .xorC, .op0 .xorD, .op0 .xorE, .op0 .xorH, .op0 .xorL, .op0 .xorIndHL, .op0 .xorA]

/-- Row Bx of the opcode map (30_encoding.md section 7). -/
def mapRowB : List Row :=
  [.unmapped, .unmapped, .unmapped, .unmapped, .unmapped, .unmapped, .unmapped, .unmapped,
   .unmapped, .unmapped, .unmapped, .unmapped, .unmapped, .unmapped, .unmapped, .unmapped]

/-- Row Cx of the opcode map (30_encoding.md section 7). -/
def mapRowC : List Row :=
  [.op0 .retNZ, .op0 .popBC, .op2 .jpNZA16, .op2 .jpA16, .op2 .callNZA16, .op0 .pushBC, .unmapped, .op0 .rst00,
   .op0 .retZ, .op0 .ret, .op2 .jpZA16, .unmapped, .op2 .callZA16, .op2 .callA16, .unmapped, .op0 .rst08]

/-- Row Dx of the opcode map (30_encoding.md section 7). -/
def mapRowD : List Row :=
  [.op0 .retNC, .op0 .popDE, .op2 .jpNCA16, .unmapped, .op2 .callNCA16, .op0 .pushDE, .unmapped, .op0 .rst10,
   .op0 .retC, .op0 .reti, .op2 .jpCA16, .unmapped, .op2 .callCA16, .unmapped, .unmapped, .op0 .rst18]

/-- Row Ex of the opcode map (30_encoding.md section 7). -/
def mapRowE : List Row :=
  [.op1 .ldhIndA8A, .op0 .popHL, .op0 .ldIndCA, .unmapped, .unmapped, .op0 .pushHL, .unmapped, .op0 .rst20,
   .unmapped, .op0 .jpHL, .op2 .ldIndA16A, .unmapped, .unmapped, .unmapped, .op1 .xorD8, .op0 .rst28]

/-- Row Fx of the opcode map (30_encoding.md section 7). -/
def mapRowF : List Row :=
  [.op1 .ldhAIndA8, .op0 .popAF, .op0 .ldAIndC, .op0 .di, .unmapped, .op0 .pushAF, .unmapped, .op0 .rst30,
   .op1 .ldHLSPe8, .op0 .ldSPHL, .op2 .ldAIndA16, .unmapped, .unmapped, .unmapped, .unmapped, .op0 .rst38]

/-- The sixteen rows, by the opcode's high nibble. -/
def opcodeMap : List (List Row) :=
  [mapRow0, mapRow1, mapRow2, mapRow3, mapRow4, mapRow5, mapRow6, mapRow7] ++
  [mapRow8, mapRow9, mapRowA, mapRowB, mapRowC, mapRowD, mapRowE, mapRowF]

/-- The table is dense: every opcode has an entry (R77). -/
def lookup (opcode : Byte) : Row :=
  (opcodeMap.getD (opcode.toNat / 16) []).getD (opcode.toNat % 16) .unmapped

/-- The entry of an opcode when the opcodes `leftOut` are not in IMPLEMENTED_SET (R91, R99). -/
def lookupIn (leftOut : List Byte) (opcode : Byte) : Row :=
  if leftOut.contains opcode then .unmapped else lookup opcode

/-- The format of an entry. -/
def Row.format : Row → Format
  | .op0 _ | .unmapped => .op
  | .op1 _ => .opImm8
  | .op2 _ => .opImm16

/-- The instruction of an entry, given its opcode and its immediate (zero-extended when it is one byte). -/
def Row.build (opcode : Byte) (imm : Word) : Row → Instr
  | .op0 i => i
  | .op1 mk => mk (loByte imm)
  | .op2 mk => mk imm
  | .unmapped => .invalid opcode

/-- The descriptor of an opcode (R77, R99): it does not depend on the immediate. -/
def descOf (leftOut : List Byte) (opcode : Byte) : Desc :=
  ((lookupIn leftOut opcode).build opcode 0).desc

/-- The instruction of an opcode with its immediate. -/
def instrOf (leftOut : List Byte) (opcode : Byte) (imm : Word) : Instr :=
  (lookupIn leftOut opcode).build opcode imm

/-- Why bytes are not an instruction. Only bytes that are too few are rejected: every opcode decodes (R77, R186). -/
inductive DecodeError where
  | noOpcode | missingImmediate
deriving DecidableEq, Repr

/-- What the decoder answers: an instruction and the bytes after it, or a rejection by name. -/
inductive Decoded where
  | instr (i : Instr) (rest : List Byte)
  | rejected (why : DecodeError)
deriving DecidableEq, Repr

/-- Decode the instruction at the head of the bytes, with the opcodes `leftOut` left out of IMPLEMENTED_SET
(R74, R80, R91, R99). -/
def decodeIn (leftOut : List Byte) : List Byte → Decoded
  | [] => .rejected .noOpcode
  | opcode :: rest =>
    match (lookupIn leftOut opcode).format, rest with
    | .op, rest => .instr (instrOf leftOut opcode 0) rest
    | .opImm8, b :: rest => .instr (instrOf leftOut opcode (zext b)) rest
    | .opImm16, lo :: hi :: rest => .instr (instrOf leftOut opcode (join hi lo)) rest
    | .opImm8, [] | .opImm16, [] | .opImm16, [_] => .rejected .missingImmediate

/-- Decode with the default IMPLEMENTED_SET: all 153 mapped opcodes (R7). -/
def decode (bytes : List Byte) : Decoded := decodeIn [] bytes

/-- The first three bytes of a table word: bit 0 is the least significant bit of the first byte, and every bit from
`nbits` on is 0. -/
def tableBytes (nbits w : Nat) : List Byte :=
  let w := w % 2 ^ nbits
  [BitVec.ofNat 8 w, BitVec.ofNat 8 (w / 256), BitVec.ofNat 8 (w / 65536)]

/-- The instruction the decoder reads from a word numbered as spec/opcode_table.json numbers it. -/
def decodeTableWord (nbits w : Nat) : Option Instr :=
  match decode (tableBytes nbits w) with
  | .instr i _ => some i
  | .rejected _ => none

/-! ## The encoder -/

/-- The opcode byte of each instruction (30_encoding.md section 8). -/
def Instr.opcode : Instr → Byte
  | .nop => 0x00
  | .ldBCD16 _ => 0x01
  | .ldIndBCA => 0x02
  | .incBC => 0x03
  | .incB => 0x04
  | .ldBD8 _ => 0x06
  | .ldIndA16SP _ => 0x08
  | .ldAIndBC => 0x0A
  | .incC => 0x0C
  | .ldCD8 _ => 0x0E
  | .ldDED16 _ => 0x11
  | .ldIndDEA => 0x12
  | .incDE => 0x13
  | .incD => 0x14
  | .ldDD8 _ => 0x16
  | .jrE8 _ => 0x18
  | .ldAIndDE => 0x1A
  | .incE => 0x1C
  | .ldED8 _ => 0x1E
  | .jrNZE8 _ => 0x20
  | .ldHLD16 _ => 0x21
  | .ldIndHLIncA => 0x22
  | .incHL => 0x23
  | .incH => 0x24
  | .ldHD8 _ => 0x26
  | .jrZE8 _ => 0x28
  | .ldAIndHLInc => 0x2A
  | .incL => 0x2C
  | .ldLD8 _ => 0x2E
  | .jrNCE8 _ => 0x30
  | .ldSPD16 _ => 0x31
  | .ldIndHLDecA => 0x32
  | .incSP => 0x33
  | .incIndHL => 0x34
  | .ldIndHLD8 _ => 0x36
  | .jrCE8 _ => 0x38
  | .ldAIndHLDec => 0x3A
  | .incA => 0x3C
  | .ldAD8 _ => 0x3E
  | .ldBB => 0x40
  | .ldBC => 0x41
  | .ldBD => 0x42
  | .ldBE => 0x43
  | .ldBH => 0x44
  | .ldBL => 0x45
  | .ldBIndHL => 0x46
  | .ldBA => 0x47
  | .ldCB => 0x48
  | .ldCC => 0x49
  | .ldCD => 0x4A
  | .ldCE => 0x4B
  | .ldCH => 0x4C
  | .ldCL => 0x4D
  | .ldCIndHL => 0x4E
  | .ldCA => 0x4F
  | .ldDB => 0x50
  | .ldDC => 0x51
  | .ldDD => 0x52
  | .ldDE => 0x53
  | .ldDH => 0x54
  | .ldDL => 0x55
  | .ldDIndHL => 0x56
  | .ldDA => 0x57
  | .ldEB => 0x58
  | .ldEC => 0x59
  | .ldED => 0x5A
  | .ldEE => 0x5B
  | .ldEH => 0x5C
  | .ldEL => 0x5D
  | .ldEIndHL => 0x5E
  | .ldEA => 0x5F
  | .ldHB => 0x60
  | .ldHC => 0x61
  | .ldHD => 0x62
  | .ldHE => 0x63
  | .ldHH => 0x64
  | .ldHL => 0x65
  | .ldHIndHL => 0x66
  | .ldHA => 0x67
  | .ldLB => 0x68
  | .ldLC => 0x69
  | .ldLD => 0x6A
  | .ldLE => 0x6B
  | .ldLH => 0x6C
  | .ldLL => 0x6D
  | .ldLIndHL => 0x6E
  | .ldLA => 0x6F
  | .ldIndHLB => 0x70
  | .ldIndHLC => 0x71
  | .ldIndHLD => 0x72
  | .ldIndHLE => 0x73
  | .ldIndHLH => 0x74
  | .ldIndHLL => 0x75
  | .ldIndHLA => 0x77
  | .ldAB => 0x78
  | .ldAC => 0x79
  | .ldAD => 0x7A
  | .ldAE => 0x7B
  | .ldAH => 0x7C
  | .ldAL => 0x7D
  | .ldAIndHL => 0x7E
  | .ldAA => 0x7F
  | .xorB => 0xA8
  | .xorC => 0xA9
  | .xorD => 0xAA
  | .xorE => 0xAB
  | .xorH => 0xAC
  | .xorL => 0xAD
  | .xorIndHL => 0xAE
  | .xorA => 0xAF
  | .retNZ => 0xC0
  | .popBC => 0xC1
  | .jpNZA16 _ => 0xC2
  | .jpA16 _ => 0xC3
  | .callNZA16 _ => 0xC4
  | .pushBC => 0xC5
  | .rst00 => 0xC7
  | .retZ => 0xC8
  | .ret => 0xC9
  | .jpZA16 _ => 0xCA
  | .callZA16 _ => 0xCC
  | .callA16 _ => 0xCD
  | .rst08 => 0xCF
  | .retNC => 0xD0
  | .popDE => 0xD1
  | .jpNCA16 _ => 0xD2
  | .callNCA16 _ => 0xD4
  | .pushDE => 0xD5
  | .rst10 => 0xD7
  | .retC => 0xD8
  | .reti => 0xD9
  | .jpCA16 _ => 0xDA
  | .callCA16 _ => 0xDC
  | .rst18 => 0xDF
  | .ldhIndA8A _ => 0xE0
  | .popHL => 0xE1
  | .ldIndCA => 0xE2
  | .pushHL => 0xE5
  | .rst20 => 0xE7
  | .jpHL => 0xE9
  | .ldIndA16A _ => 0xEA
  | .xorD8 _ => 0xEE
  | .rst28 => 0xEF
  | .ldhAIndA8 _ => 0xF0
  | .popAF => 0xF1
  | .ldAIndC => 0xF2
  | .di => 0xF3
  | .pushAF => 0xF5
  | .rst30 => 0xF7
  | .ldHLSPe8 _ => 0xF8
  | .ldSPHL => 0xF9
  | .ldAIndA16 _ => 0xFA
  | .rst38 => 0xFF
  | .invalid opcode => opcode

/-- The immediate bytes of an instruction, low byte first (R79 to R82). -/
def Instr.immBytes : Instr → List Byte
  | .ldBD8 d8 => [d8]
  | .ldCD8 d8 => [d8]
  | .ldDD8 d8 => [d8]
  | .jrE8 e8 => [e8]
  | .ldED8 d8 => [d8]
  | .jrNZE8 e8 => [e8]
  | .ldHD8 d8 => [d8]
  | .jrZE8 e8 => [e8]
  | .ldLD8 d8 => [d8]
  | .jrNCE8 e8 => [e8]
  | .ldIndHLD8 d8 => [d8]
  | .jrCE8 e8 => [e8]
  | .ldAD8 d8 => [d8]
  | .ldhIndA8A a8 => [a8]
  | .xorD8 d8 => [d8]
  | .ldhAIndA8 a8 => [a8]
  | .ldHLSPe8 e8 => [e8]
  | .ldBCD16 d16 => [loByte d16, hiByte d16]
  | .ldIndA16SP a16 => [loByte a16, hiByte a16]
  | .ldDED16 d16 => [loByte d16, hiByte d16]
  | .ldHLD16 d16 => [loByte d16, hiByte d16]
  | .ldSPD16 d16 => [loByte d16, hiByte d16]
  | .jpNZA16 a16 => [loByte a16, hiByte a16]
  | .jpA16 a16 => [loByte a16, hiByte a16]
  | .callNZA16 a16 => [loByte a16, hiByte a16]
  | .jpZA16 a16 => [loByte a16, hiByte a16]
  | .callZA16 a16 => [loByte a16, hiByte a16]
  | .callA16 a16 => [loByte a16, hiByte a16]
  | .jpNCA16 a16 => [loByte a16, hiByte a16]
  | .callNCA16 a16 => [loByte a16, hiByte a16]
  | .jpCA16 a16 => [loByte a16, hiByte a16]
  | .callCA16 a16 => [loByte a16, hiByte a16]
  | .ldIndA16A a16 => [loByte a16, hiByte a16]
  | .ldAIndA16 a16 => [loByte a16, hiByte a16]
  | .nop | .ldIndBCA | .incBC | .incB | .ldAIndBC | .incC | .ldIndDEA | .incDE
  | .incD | .ldAIndDE | .incE | .ldIndHLIncA | .incHL | .incH | .ldAIndHLInc | .incL
  | .ldIndHLDecA | .incSP | .incIndHL | .ldAIndHLDec | .incA | .ldBB | .ldBC | .ldBD
  | .ldBE | .ldBH | .ldBL | .ldBIndHL | .ldBA | .ldCB | .ldCC | .ldCD
  | .ldCE | .ldCH | .ldCL | .ldCIndHL | .ldCA | .ldDB | .ldDC | .ldDD
  | .ldDE | .ldDH | .ldDL | .ldDIndHL | .ldDA | .ldEB | .ldEC | .ldED
  | .ldEE | .ldEH | .ldEL | .ldEIndHL | .ldEA | .ldHB | .ldHC | .ldHD
  | .ldHE | .ldHH | .ldHL | .ldHIndHL | .ldHA | .ldLB | .ldLC | .ldLD
  | .ldLE | .ldLH | .ldLL | .ldLIndHL | .ldLA | .ldIndHLB | .ldIndHLC | .ldIndHLD
  | .ldIndHLE | .ldIndHLH | .ldIndHLL | .ldIndHLA | .ldAB | .ldAC | .ldAD | .ldAE
  | .ldAH | .ldAL | .ldAIndHL | .ldAA | .xorB | .xorC | .xorD | .xorE
  | .xorH | .xorL | .xorIndHL | .xorA | .retNZ | .popBC | .pushBC | .rst00
  | .retZ | .ret | .rst08 | .retNC | .popDE | .pushDE | .rst10 | .retC
  | .reti | .rst18 | .popHL | .ldIndCA | .pushHL | .rst20 | .jpHL | .rst28
  | .popAF | .ldAIndC | .di | .pushAF | .rst30 | .ldSPHL | .rst38 | .invalid _ => []

/-- The words of an instruction: its opcode byte, then its immediate bytes (R74). -/
def encode (i : Instr) : List Byte := i.opcode :: i.immBytes

/-- The opcode is in IMPLEMENTED_SET, or is `invalid` because it is unmapped or left out (R7, R91). -/
def Instr.admitted (leftOut : List Byte) (i : Instr) : Bool :=
  match i with
  | .invalid opcode => unmappedOpcodes.contains opcode || leftOut.contains opcode
  | .nop | .ldBCD16 _ | .ldIndBCA | .incBC | .incB | .ldBD8 _ | .ldIndA16SP _ | .ldAIndBC
  | .incC | .ldCD8 _ | .ldDED16 _ | .ldIndDEA | .incDE | .incD | .ldDD8 _ | .jrE8 _
  | .ldAIndDE | .incE | .ldED8 _ | .jrNZE8 _ | .ldHLD16 _ | .ldIndHLIncA | .incHL | .incH
  | .ldHD8 _ | .jrZE8 _ | .ldAIndHLInc | .incL | .ldLD8 _ | .jrNCE8 _ | .ldSPD16 _ | .ldIndHLDecA
  | .incSP | .incIndHL | .ldIndHLD8 _ | .jrCE8 _ | .ldAIndHLDec | .incA | .ldAD8 _ | .ldBB
  | .ldBC | .ldBD | .ldBE | .ldBH | .ldBL | .ldBIndHL | .ldBA | .ldCB
  | .ldCC | .ldCD | .ldCE | .ldCH | .ldCL | .ldCIndHL | .ldCA | .ldDB
  | .ldDC | .ldDD | .ldDE | .ldDH | .ldDL | .ldDIndHL | .ldDA | .ldEB
  | .ldEC | .ldED | .ldEE | .ldEH | .ldEL | .ldEIndHL | .ldEA | .ldHB
  | .ldHC | .ldHD | .ldHE | .ldHH | .ldHL | .ldHIndHL | .ldHA | .ldLB
  | .ldLC | .ldLD | .ldLE | .ldLH | .ldLL | .ldLIndHL | .ldLA | .ldIndHLB
  | .ldIndHLC | .ldIndHLD | .ldIndHLE | .ldIndHLH | .ldIndHLL | .ldIndHLA | .ldAB | .ldAC
  | .ldAD | .ldAE | .ldAH | .ldAL | .ldAIndHL | .ldAA | .xorB | .xorC
  | .xorD | .xorE | .xorH | .xorL | .xorIndHL | .xorA | .retNZ | .popBC
  | .jpNZA16 _ | .jpA16 _ | .callNZA16 _ | .pushBC | .rst00 | .retZ | .ret | .jpZA16 _
  | .callZA16 _ | .callA16 _ | .rst08 | .retNC | .popDE | .jpNCA16 _ | .callNCA16 _ | .pushDE
  | .rst10 | .retC | .reti | .jpCA16 _ | .callCA16 _ | .rst18 | .ldhIndA8A _ | .popHL
  | .ldIndCA | .pushHL | .rst20 | .jpHL | .ldIndA16A _ | .xorD8 _ | .rst28 | .ldhAIndA8 _
  | .popAF | .ldAIndC | .di | .pushAF | .rst30 | .ldHLSPe8 _ | .ldSPHL | .ldAIndA16 _
  | .rst38 => !leftOut.contains i.opcode

end Sys2Proof
end

