-- ==== Sys2Proof/Machine/Fetch.lean ====
section
/-! DEFINITION. The first phases of a step: Fetch, Decode, and the immediate bytes that Resolve reads
(40_step_and_addressing.md R97 to R100). -/

namespace Sys2Proof.Machine

/-- Fetch (R98): the transient state is reset, the opcode is read, PC advances, and the tick comes after the read. -/
def fetchOpcode (s : State) : Res Byte :=
  let s := s.setT { Transient.cleared with opcodePc := s.pc }
  (busRead s.pc s).bind fun opcode s =>
    .ok opcode (((s.setCurOpcode opcode).setPc (s.pc + 1)).tick s.params.opcodeFetchTicks)

/-- Decode (R99): the descriptor of the opcode, or the sentinel when it is not in IMPLEMENTED_SET. -/
def decodePhase (s : State) : State :=
  s.setT { s.t with curDesc := descOf s.params.leftOut s.t.curOpcode }

/-- `imm8()` (R100). -/
def imm8 (s : State) : Res Byte :=
  (busRead s.pc s).bind fun b s => .ok b ((s.setPc (s.pc + 1)).tick 1)

/-- `imm16()` (R100). -/
def imm16 (s : State) : Res Word :=
  (imm8 s).bind fun lo s => (imm8 s).bind fun hi s => .ok (join hi lo) s

/-- The immediate bytes the mode calls for. -/
def fetchImm (s : State) : Res Word :=
  match s.t.curDesc.mode.format with
  | .op => .ok 0 s
  | .opImm8 => (imm8 s).bind fun b s => .ok (zext b) s
  | .opImm16 => imm16 s

/-- The instruction at PC, with its opcode and its immediates read. -/
def fetchInstr (s : State) : Res Instr :=
  (fetchOpcode s).bind fun opcode s =>
    (fetchImm (decodePhase s)).bind fun imm s => .ok (instrOf s.params.leftOut opcode imm) s

end Sys2Proof.Machine
end

