-- ==== Sys2Proof/Machine/Step.lean ====
section
/-! DEFINITION. One step of the machine (40_step_and_addressing.md R94 to R97), and placing an instruction where the
next step fetches it. -/

namespace Sys2Proof.Machine

/-- Step. From Faulted the core has no step (R95; log 8). While halted, a step only ticks (R96; log 5). Otherwise it
fetches and runs one instruction (R97). -/
def step (s : State) : Host.Outcome State Fault Refusal :=
  match s.status with
  | .faulted info => .fault (.alreadyFaulted info)
  | .running =>
    if s.halted then .next (s.tick Config.haltedStepTicks)
    else
      match fetchInstr s with
      | .ok i s => exec i s
      | .raise info s => takeFault info s

/-- Put a byte where the bus would read it from, if a write can change what the bus reads there. -/
def State.place (s : State) (addr : Word) (b : Byte) : State :=
  match busWrite addr b s with
  | .ok _ s => s
  | .raise _ _ => s

/-- Place the bytes from an address on. -/
def State.placeAll (s : State) (addr : Word) : List Byte → State
  | [] => s
  | b :: bytes => (s.place addr b).placeAll (addr + 1) bytes

/-- The instruction of a table word, stored where `step` fetches its next instruction: at PC, in a core that is running
and not halted, with the reference provider as its cartridge, the one whose bytes can be placed. After reset that is the cartridge's entry at 0x0100. It stands for loading a program (log 12). -/
def State.withFetchWord (s : State) (nbits w : Nat) : State :=
  ({ s with halted := false, status := .running, cartLog := [], params := { s.params with cart := .reference } } : State).placeAll s.pc (tableBytes nbits w)

end Sys2Proof.Machine
end

