-- ==== Sys2Proof/Machine/Cartridge.lean ====
section
/-! DEFINITION. The cartridge header, external to the core (20_memory.md R72, R73): functions of the image, which no
step uses (log 16). -/

namespace Sys2Proof.Machine

/-- The bytes of the image from `offset` on. -/
def imageBytes (image : Memory) (offset : Nat) : Nat → List Byte
  | 0 => []
  | n + 1 => image.get offset :: imageBytes image (offset + 1) n

/-- The fields of the header, in the source's order (R72). -/
structure Header where
  entry : List Byte
  logo : List Byte
  title : List Byte
  newLicenseeCode : Word
  sgbFlag : Byte
  cartridgeType : Byte
  romSizeCode : Byte
  ramSizeCode : Byte
  destinationCode : Byte
  oldLicenseeCode : Byte
  maskRomVersion : Byte
  headerChecksum : Byte
  globalChecksum : Word
deriving DecidableEq, Repr

/-- The header at file offset 0x100; its 16-bit fields are little-endian (R72). -/
def parseHeader (image : Memory) : Header :=
  { entry := imageBytes image 0x100 4
    logo := imageBytes image 0x104 0x30
    title := imageBytes image 0x134 16
    newLicenseeCode := join (image.get 0x145) (image.get 0x144)
    sgbFlag := image.get 0x146
    cartridgeType := image.get 0x147
    romSizeCode := image.get 0x148
    ramSizeCode := image.get 0x149
    destinationCode := image.get 0x14A
    oldLicenseeCode := image.get 0x14B
    maskRomVersion := image.get 0x14C
    headerChecksum := image.get 0x14D
    globalChecksum := join (image.get 0x14F) (image.get 0x14E) }

/-- The checksum of the bytes 0x134 to 0x14C, from 0 (R73). -/
def headerChecksum (image : Memory) : Byte :=
  (imageBytes image 0x134 25).foldl (fun sum b => sum - b - 1) 0

/-- The header's checksum field is the computed one (R73). -/
def headerValid (image : Memory) : Bool := headerChecksum image == image.get 0x14D

end Sys2Proof.Machine
end

