-- ==== Sys2Proof/Safety.lean ====
section
/-! DEFINITION. The terms statements are made in: what the bus gives, what an instruction may change, and the
invariant of the machine. -/

namespace Sys2Proof.Machine

/-- The byte the bus reads at an address, or none where it faults. -/
def State.peek (s : State) (addr : Word) : Option Byte :=
  match busRead addr s with
  | .ok b _ => some b
  | .raise _ _ => none

/-- The addresses a bus read does not fault on: outside Video RAM, Object memory and the I/O window (41_load.md R129). -/
abbrev Readable (addr : Word) : Prop :=
  ¬ (0x8000 ≤ addr.toNat ∧ addr.toNat ≤ 0x9FFF) ∧ ¬ (0xFE00 ≤ addr.toNat ∧ addr.toNat ≤ 0xFE9F) ∧
    ¬ (0xFF00 ≤ addr.toNat ∧ addr.toNat ≤ 0xFF7F)

/-- The addresses a bus write does not fault on: outside 0x8000-0x9FFF and 0xE000-0xFF7F (41_load.md R130). -/
abbrev Writable (addr : Word) : Prop :=
  ¬ (0x8000 ≤ addr.toNat ∧ addr.toNat ≤ 0x9FFF) ∧ ¬ (0xE000 ≤ addr.toNat ∧ addr.toNat ≤ 0xFF7F)

/-- The addresses of the two providers (20_memory.md R61, R62). -/
abbrev ProviderAddr (a : Nat) : Prop :=
  a ≤ 0x7FFF ∨ (0xA000 ≤ a ∧ a ≤ 0xDFFF) ∨ (0xFF80 ≤ a ∧ a ≤ 0xFFFE)

/-- A byte written at an address reads back. In a window of a cartridge provider other than the reference one that is the
provider's business (20_memory.md R42; log 3). -/
def State.Holds (s : State) (addr : Word) (b : Byte) : Prop := ¬ s.OpenAt addr → s.peek addr = some b

/-- The cartridge `id` ignores writes to its ROM window: what it answers afterwards is as if they had not been made. -/
def IgnoresRomWrites (id : Nat) : Prop :=
  ∀ accesses addr b x, addr.toNat ≤ 0x7FFF → Config.cartByte id (.write addr b :: accesses) x = Config.cartByte id accesses x

/-- The cartridge `id` has no RAM: its RAM window always reads as `v`. -/
def HasNoRam (id : Nat) (v : Byte) : Prop :=
  ∀ accesses x, 0xA000 ≤ x.toNat → x.toNat ≤ 0xBFFF → Config.cartByte id accesses x = v

/-- The two accesses of a push16 of `v`, noted (20_memory.md R63, R65). -/
def State.notePush (v : Word) (s : State) : State :=
  (s.note (.write (s.sp - 1) (hiByte v))).note (.write (s.sp - 2) (loByte v))

/-- The two accesses of a pop16, noted (R64, R65). -/
def State.notePop (s : State) : State := (s.note (.read s.sp)).note (.read (s.sp + 1))

/-- The registers a frame speaks of one by one; PC is stated beside it. -/
def frameRegs : List Reg := [.a, .f, .b, .c, .d, .e, .h, .l, .sp]

/-- What an instruction leaves: PC is `pc`, `extra` ticks are emitted, and every register but `regs`, every byte the bus
reads but those at `addrs` (IE among them, at 0xFFFF), IME, halted, status, the parameters and the cartridge provider's state
are as before. Where an instruction makes accesses of its own, `s` is the state before it with those accesses noted
(`State.note`, which changes nothing under the reference provider). -/
structure Changes (regs : List Reg) (addrs : List Word) (pc : Word) (extra : Nat) (s s' : State) : Prop where
  regs_kept : ∀ r ∈ frameRegs, r ∉ regs → s'.read r = s.read r
  mem_kept : ∀ addr, addr ∉ addrs → s'.peek addr = s.peek addr
  pc_is : s'.pc = pc
  ticks_are : s'.ticks = s.ticks + extra
  ime_kept : s'.ime = s.ime
  halted_kept : s'.halted = s.halted
  status_kept : s'.status = s.status
  params_kept : s'.params = s.params
  cart_kept : s'.cartLog = s.cartLog

/-- A byte as a flag byte has Z, N, H and C where 10_state.md R20 puts them, and a zero low nibble. -/
def FlagsAre (f : Byte) (z n h c : Bool) : Prop :=
  f.getLsbD 7 = z ∧ f.getLsbD 6 = n ∧ f.getLsbD 5 = h ∧ f.getLsbD 4 = c ∧ f &&& 0x0F = 0

/-- The kind and information a fault reports (60_exceptions.md R179). -/
def Fault.info : Fault → FaultInfo
  | .invalidInstruction opcode opcodePc _ => .invalidInstruction opcode opcodePc
  | .unsupportedRegion addr access _ => .unsupportedRegion addr access
  | .alreadyFaulted info => info

/-- The state a fault leaves behind, where its step ran (R182). -/
def Fault.left : Fault → Option State
  | .invalidInstruction _ _ left => some left
  | .unsupportedRegion _ _ left => some left
  | .alreadyFaulted _ => none

/-- The invariant of the machine between steps: F's low nibble is 0 (10_state.md R19); memory is in canonical form and
lists provider addresses only; nothing is in the transient state (R29); the core is running and not halted (R30, R194); and
the reference provider keeps no record of accesses (R61). -/
abbrev State.Inv (s : State) : Prop :=
  s.f &&& 0x0F = 0 ∧ s.mem.wf = true ∧ (∀ cell ∈ s.mem, ProviderAddr cell.1) ∧ s.t = .cleared ∧
    s.halted = false ∧ s.status = .running ∧ (s.params.cart = .reference → s.cartLog = [])

end Sys2Proof.Machine
end

