-- ==== Sys2Proof/Certificates/Slice0/Obligations.lean ====
section
/-! DEFINITION. The statements about the machine, for the provers. The lists of forms come first: each row is an
instruction with what the spec's table gives it. -/

namespace Sys2Proof.Machine

/-- LD r,r' (41_load.md R128): destination and source. -/
def ldRegRegForms : List (Instr × Reg × Reg) :=
  [(.ldBB, .b, .b), (.ldBC, .b, .c), (.ldBD, .b, .d), (.ldBE, .b, .e), (.ldBH, .b, .h), (.ldBL, .b, .l), (.ldBA, .b, .a),
   (.ldCB, .c, .b), (.ldCC, .c, .c), (.ldCD, .c, .d), (.ldCE, .c, .e), (.ldCH, .c, .h), (.ldCL, .c, .l), (.ldCA, .c, .a),
   (.ldDB, .d, .b), (.ldDC, .d, .c), (.ldDD, .d, .d), (.ldDE, .d, .e), (.ldDH, .d, .h), (.ldDL, .d, .l), (.ldDA, .d, .a),
   (.ldEB, .e, .b), (.ldEC, .e, .c), (.ldED, .e, .d), (.ldEE, .e, .e), (.ldEH, .e, .h), (.ldEL, .e, .l), (.ldEA, .e, .a),
   (.ldHB, .h, .b), (.ldHC, .h, .c), (.ldHD, .h, .d), (.ldHE, .h, .e), (.ldHH, .h, .h), (.ldHL, .h, .l), (.ldHA, .h, .a),
   (.ldLB, .l, .b), (.ldLC, .l, .c), (.ldLD, .l, .d), (.ldLE, .l, .e), (.ldLH, .l, .h), (.ldLL, .l, .l), (.ldLA, .l, .a),
   (.ldAB, .a, .b), (.ldAC, .a, .c), (.ldAD, .a, .d), (.ldAE, .a, .e), (.ldAH, .a, .h), (.ldAL, .a, .l), (.ldAA, .a, .a)]

/-- LD r,d8 (R131). -/
def ldRegImmForms (d8 : Byte) : List (Instr × Reg) :=
  [(.ldBD8 d8, .b), (.ldCD8 d8, .c), (.ldDD8 d8, .d), (.ldED8 d8, .e), (.ldHD8 d8, .h), (.ldLD8 d8, .l), (.ldAD8 d8, .a)]

/-- LD rr,d16 (R139) and LD SP,HL (R146): the pair, its halves (SP has none), and the value. -/
def ldPairForms (d16 : Word) : List (Instr × Reg × List Reg × (State → Word)) :=
  [(.ldBCD16 d16, .bc, [.b, .c], fun _ => d16), (.ldDED16 d16, .de, [.d, .e], fun _ => d16),
   (.ldHLD16 d16, .hl, [.h, .l], fun _ => d16), (.ldSPD16 d16, .sp, [.sp], fun _ => d16), (.ldSPHL, .sp, [.sp], State.read .hl)]

/-- The loads of one byte that leave HL's role to the destination: destination register and address
(R129, R133, R142, R144, R149). -/
def loadForms (a8 : Byte) (a16 : Word) : List (Instr × Reg × (State → Word)) :=
  [(.ldBIndHL, .b, State.read .hl), (.ldCIndHL, .c, State.read .hl), (.ldDIndHL, .d, State.read .hl), (.ldEIndHL, .e, State.read .hl), (.ldHIndHL, .h, State.read .hl), (.ldLIndHL, .l, State.read .hl), (.ldAIndHL, .a, State.read .hl)] ++
  [(.ldAIndBC, .a, State.read .bc), (.ldAIndDE, .a, State.read .de), (.ldAIndC, .a, fun s => highPage s.c),
   (.ldAIndA16 a16, .a, fun _ => a16), (.ldhAIndA8 a8, .a, fun _ => highPage a8)]

/-- The stores of one byte that change no register: address and byte (R130, R132, R134, R141, R143, R148). -/
def storeForms (d8 a8 : Byte) (a16 : Word) : List (Instr × (State → Word) × (State → Byte)) :=
  [(.ldIndHLB, State.read .hl, State.b), (.ldIndHLC, State.read .hl, State.c), (.ldIndHLD, State.read .hl, State.d), (.ldIndHLE, State.read .hl, State.e), (.ldIndHLH, State.read .hl, State.h), (.ldIndHLL, State.read .hl, State.l), (.ldIndHLA, State.read .hl, State.a)] ++
  [(.ldIndHLD8 d8, State.read .hl, fun _ => d8), (.ldIndBCA, State.read .bc, State.a), (.ldIndDEA, State.read .de, State.a),
   (.ldIndA16A a16, fun _ => a16, State.a), (.ldIndCA, fun s => highPage s.c, State.a), (.ldhIndA8A a8, fun _ => highPage a8, State.a)]

/-- The loads and stores that step HL (R135 to R138): what is added to HL. -/
def hlLoadForms : List (Instr × Word) := [(.ldAIndHLInc, 1), (.ldAIndHLDec, -1)]
def hlStoreForms : List (Instr × Word) := [(.ldIndHLIncA, 1), (.ldIndHLDecA, -1)]

/-- JP a16 and JP cc,a16 (42_control_transfer.md R151, R152). -/
def jpForms (a16 : Word) : List (Instr × Cond) :=
  [(.jpA16 a16, .none), (.jpNZA16 a16, .nz), (.jpZA16 a16, .z), (.jpNCA16 a16, .nc), (.jpCA16 a16, .c)]

/-- JR e8 and JR cc,e8 (R154, R155). -/
def jrForms (e8 : Byte) : List (Instr × Cond) :=
  [(.jrE8 e8, .none), (.jrNZE8 e8, .nz), (.jrZE8 e8, .z), (.jrNCE8 e8, .nc), (.jrCE8 e8, .c)]

/-- CALL a16 and CALL cc,a16 (R156, R157). -/
def callForms (a16 : Word) : List (Instr × Cond) :=
  [(.callA16 a16, .none), (.callNZA16 a16, .nz), (.callZA16 a16, .z), (.callNCA16 a16, .nc), (.callCA16 a16, .c)]

/-- RET and RET cc (R159, R160): the condition, and the extra tick of the conditional forms. -/
def retForms : List (Instr × Cond × Nat) :=
  [(.ret, .none, 0), (.retNZ, .nz, 1), (.retZ, .z, 1), (.retNC, .nc, 1), (.retC, .c, 1)]

/-- RST n (R162): the target. -/
def rstForms : List (Instr × Word) :=
  [(.rst00, 0x0000), (.rst08, 0x0008), (.rst10, 0x0010), (.rst18, 0x0018), (.rst20, 0x0020), (.rst28, 0x0028),
   (.rst30, 0x0030), (.rst38, 0x0038)]

/-- PUSH rr (43_stack.md R164). -/
def pushForms : List (Instr × Reg) := [(.pushBC, .bc), (.pushDE, .de), (.pushHL, .hl), (.pushAF, .af)]

/-- POP rr (R165): the pair and its halves. -/
def popForms : List (Instr × Reg × List Reg) :=
  [(.popBC, .bc, [.b, .c]), (.popDE, .de, [.d, .e]), (.popHL, .hl, [.h, .l])]

/-- INC r (44_arith_logic.md R168). -/
def incRegForms : List (Instr × Reg) :=
  [(.incB, .b), (.incC, .c), (.incD, .d), (.incE, .e), (.incH, .h), (.incL, .l), (.incA, .a)]

/-- INC rr (R170): the pair and its halves (SP has none). -/
def incPairForms : List (Instr × Reg × List Reg) :=
  [(.incBC, .bc, [.b, .c]), (.incDE, .de, [.d, .e]), (.incHL, .hl, [.h, .l]), (.incSP, .sp, [.sp])]

/-- XOR r and XOR d8 (R172, R174): the operand. -/
def xorForms (d8 : Byte) : List (Instr × (State → Byte)) :=
  [(.xorB, State.b), (.xorC, State.c), (.xorD, State.d), (.xorE, State.e), (.xorH, State.h), (.xorL, State.l), (.xorA, State.a), (.xorD8 d8, fun _ => d8)]

/-- The pushes of one word and what they push: PUSH, RST, and CALL when taken (60_exceptions.md R181). -/
def pushesWord (a16 : Word) (s : State) : List (Instr × Word) :=
  (pushForms.map fun f => (f.1, s.read f.2)) ++ (rstForms.map fun f => (f.1, s.pc)) ++
  (((callForms a16).filter fun f => f.2.holds s.f).map fun f => (f.1, s.pc))

/-- The pops of one word, and the state they pop in: POP, RET and RET cc when taken, RETI (R181). -/
def popsWord (s : State) : List (Instr × State) :=
  [(.popBC, s), (.popDE, s), (.popHL, s), (.popAF, s), (.reti, s.setIme true)] ++
  ((retForms.filter fun f => f.2.1.holds s.f).map fun f => (f.1, s.tick f.2.2))

/-- The instructions that may put something other than the next instruction's address in PC, by opcode: JP, JR, CALL, RET, RETI
and RST (42_control_transfer.md). -/
def Transfers (i : Instr) : Prop :=
  i.opcode ∈ [0xC3, 0xC2, 0xCA, 0xD2, 0xDA, 0xE9, 0x18, 0x20, 0x28, 0x30, 0x38, 0xCD, 0xC4, 0xCC, 0xD4, 0xDC, 0xC9, 0xC0, 0xC8, 0xD0,
    0xD8, 0xD9, 0xC7, 0xCF, 0xD7, 0xDF, 0xE7, 0xEF, 0xF7, 0xFF]

/-- The instructions that write flags, by opcode: INC r and INC (HL), the XORs, LD HL,SP+e8 and POP AF (44_arith_logic.md R175). -/
def WritesFlags (i : Instr) : Prop :=
  i.opcode ∈ [0x04, 0x0C, 0x14, 0x1C, 0x24, 0x2C, 0x3C, 0x34, 0xA8, 0xA9, 0xAA, 0xAB, 0xAC, 0xAD, 0xAF, 0xAE, 0xEE, 0xF8, 0xF1]

/-- The extra ticks of an instruction (70_reset_and_hazards.md R201): INC rr, LD (a16),SP, and RET cc taken or not. -/
def extraTicks (i : Instr) : Nat :=
  if i.opcode ∈ [0x03, 0x13, 0x23, 0x33, 0x08, 0xC0, 0xC8, 0xD0, 0xD8] then 1 else 0

/-- The state with `n` bus reads from `addr` on noted. -/
def State.noteReads (s : State) (addr : Word) : Nat → State
  | 0 => s
  | n + 1 => (s.note (.read addr)).noteReads (addr + 1) n

/-- The step at `s` has fetched `i`: its bytes are read, PC is past them, the fetch and immediate ticks are emitted, and the
transient state names the opcode (40_step_and_addressing.md R97 to R100, R125). -/
def afterFetch (i : Instr) (s : State) : State :=
  { s.noteReads s.pc (encode i).length with
    pc := s.pc + BitVec.ofNat 16 (encode i).length
    ticks := s.ticks + s.params.opcodeFetchTicks + i.immBytes.length
    t := { Transient.cleared with curOpcode := i.opcode, curDesc := i.desc, opcodePc := s.pc } }

/-- The bytes the bus gives from `addr` on, read one after the other, are `bytes`. -/
def BytesAt (s : State) (addr : Word) : List Byte → Prop
  | [] => True
  | b :: bytes => s.peek addr = some b ∧ BytesAt (s.note (.read addr)) (addr + 1) bytes

/-- Two outcomes that differ at most in the IME and ticks of their states. -/
def SameButImeTicks : Result → Result → Prop
  | .next s, .next s' => ∃ b n, s' = { s with ime := b, ticks := n }
  | .fault (.invalidInstruction op pc s), .fault (.invalidInstruction op' pc' s') =>
    op' = op ∧ pc' = pc ∧ ∃ b n, s' = { s with ime := b, ticks := n }
  | .fault (.unsupportedRegion a d s), .fault (.unsupportedRegion a' d' s') =>
    a' = a ∧ d' = d ∧ ∃ b n, s' = { s with ime := b, ticks := n }
  | .fault (.alreadyFaulted info), .fault (.alreadyFaulted info') => info' = info
  | _, _ => False

end Sys2Proof.Machine

open Sys2Proof Sys2Proof.Machine

/-! ## Registers, flags and conditions -/

/-- 10_state.md R17, R18: a pair's high byte is its first-named register (for BC, DE and HL the spec's own choice, D3);
writing a pair splits the value, AF with F's low nibble masked, and the pair then reads back. -/
def Obligations.PairsJoinAndSplitTheirHalves : Prop :=
  ∀ (s : State) (v : Word),
    (s.read .af = (s.a.setWidth 16 <<< 8) ||| s.f.setWidth 16 ∧ s.read .bc = (s.b.setWidth 16 <<< 8) ||| s.c.setWidth 16 ∧
      s.read .de = (s.d.setWidth 16 <<< 8) ||| s.e.setWidth 16 ∧ s.read .hl = (s.h.setWidth 16 <<< 8) ||| s.l.setWidth 16) ∧
    ((s.write .af v).a = v.extractLsb' 8 8 ∧ (s.write .af v).f = v.extractLsb' 0 8 &&& 0xF0) ∧
    ((s.write .bc v).b = v.extractLsb' 8 8 ∧ (s.write .bc v).c = v.extractLsb' 0 8) ∧
    ((s.write .de v).d = v.extractLsb' 8 8 ∧ (s.write .de v).e = v.extractLsb' 0 8) ∧
    ((s.write .hl v).h = v.extractLsb' 8 8 ∧ (s.write .hl v).l = v.extractLsb' 0 8) ∧
    (s.write .bc v).read .bc = v ∧ (s.write .de v).read .de = v ∧ (s.write .hl v).read .hl = v ∧
    (s.write .af v).read .af = v &&& 0xFFF0

/-- 10_state.md R19: a write to F, directly or through AF, stores v & 0xF0; the launch state has F's low nibble 0; and where
it is 0 before a step, it is 0 in the state after, whether the step completes or faults. -/
def Obligations.FLowNibbleStaysZero : Prop :=
  (∀ (s : State) (v : Word), (s.write .f v).f = v.extractLsb' 0 8 &&& 0xF0 ∧ (s.write .af v).f = v.extractLsb' 0 8 &&& 0xF0) ∧
  (∀ (image : Memory) (r : Config.InitRegs) (p : Config.Params), (State.launch image r p).f &&& 0x0F = 0) ∧
  (∀ s : State, s.f &&& 0x0F = 0 →
    (∀ s', step s = .next s' → s'.f &&& 0x0F = 0) ∧
    (∀ r left, step s = .fault r → r.left = some left → left.f &&& 0x0F = 0))

/-- 10_state.md R21: each directive sets, clears or keeps its own flag, F[3:0] is 0 after, and nothing but F changes. A
Boolean as a directive means 1 if true, else 0. -/
def Obligations.SetFlagsFollowsItsDirectives : Prop :=
  (∀ (z n h c : Directive) (s : State),
    let want : Directive → Bool → Bool := fun d old => match d with | .force0 => false | .force1 => true | .keep => old
    FlagsAre (setFlags z n h c s).f (want z (s.f.getLsbD 7)) (want n (s.f.getLsbD 6)) (want h (s.f.getLsbD 5)) (want c (s.f.getLsbD 4)) ∧
      setFlags z n h c s = { s with f := (setFlags z n h c s).f }) ∧
  Directive.ofBool true = .force1 ∧ Directive.ofBool false = .force0

/-- 10_state.md R22: when each branch condition is true. -/
def Obligations.ConditionsReadZAndC : Prop :=
  ∀ f : Byte,
    Cond.none.holds f = true ∧ (Cond.z.holds f = true ↔ f.getLsbD 7 = true) ∧ (Cond.nz.holds f = true ↔ f.getLsbD 7 = false) ∧
    (Cond.c.holds f = true ↔ f.getLsbD 4 = true) ∧ (Cond.nc.holds f = true ↔ f.getLsbD 4 = false)

/-! ## Memory and the bus -/

/-- 20_memory.md R40, window by window. In the two cartridge windows it is CART that answers: the reference provider of R61
its byte, any other provider the byte it chooses after the accesses it has had, and it takes note of this one (R42, R44,
R60; 00_scope.md R8; log 3). -/
def Obligations.BusReadByWindow : Prop :=
  ∀ (s : State) (addr : Word),
    (addr.toNat ≤ 0x7FFF ∨ (0xA000 ≤ addr.toNat ∧ addr.toNat ≤ 0xBFFF) →
      (s.params.cart = .reference → busRead addr s = .ok (s.mem.get addr.toNat) s) ∧
      (∀ id, s.params.cart = .other id →
        busRead addr s = .ok (Config.cartByte id s.cartLog addr) { s with cartLog := .read addr :: s.cartLog })) ∧
    (0x8000 ≤ addr.toNat ∧ addr.toNat ≤ 0x9FFF → busRead addr s = .raise (.unsupportedRegion addr .read) s) ∧
    (0xC000 ≤ addr.toNat ∧ addr.toNat ≤ 0xDFFF → busRead addr s = .ok (s.mem.get addr.toNat) s) ∧
    (0xE000 ≤ addr.toNat ∧ addr.toNat ≤ 0xFDFF → busRead addr s = .ok 0x00 s) ∧
    (0xFE00 ≤ addr.toNat ∧ addr.toNat ≤ 0xFE9F → busRead addr s = .raise (.unsupportedRegion addr .read) s) ∧
    (0xFEA0 ≤ addr.toNat ∧ addr.toNat ≤ 0xFEFF → busRead addr s = .ok 0x00 s) ∧
    (0xFF00 ≤ addr.toNat ∧ addr.toNat ≤ 0xFF7F → busRead addr s = .raise (.unsupportedRegion addr .read) s) ∧
    (0xFF80 ≤ addr.toNat ∧ addr.toNat ≤ 0xFFFE → busRead addr s = .ok (s.mem.get addr.toNat) s) ∧
    (addr = 0xFFFF → busRead addr s = .ok s.ie s)

/-- 20_memory.md R41, R50, R53, R60 to R62: a write to a provider's window or to IE changes that byte as the bus reads it and
no other, and no register; at 0xFFFF it is IE that changes. In the two cartridge windows this is the reference provider of
R61; a write to any other provider is noted and changes nothing else, and what is read there afterwards is for that
provider to say (R42, R44; 00_scope.md R8; log 3). A write to any other window raises UnsupportedRegion(addr, Write b) and
changes nothing. -/
def Obligations.BusWriteByWindow : Prop :=
  ∀ (s : State) (addr : Word) (b : Byte),
    (Writable addr → ∃ s', busWrite addr b s = .ok () s' ∧ s'.Holds addr b ∧ (addr = 0xFFFF → s'.ie = b ∧ s'.mem = s.mem) ∧
      (addr ≠ 0xFFFF → s'.ie = s.ie) ∧ Changes [] [addr] s.pc 0 (s.note (.write addr b)) s') ∧
    (∀ id, s.params.cart = .other id → addr.toNat ≤ 0x7FFF ∨ (0xA000 ≤ addr.toNat ∧ addr.toNat ≤ 0xBFFF) →
      busWrite addr b s = .ok () { s with cartLog := .write addr b :: s.cartLog }) ∧
    (¬ Writable addr → busWrite addr b s = .raise (.unsupportedRegion addr (.write b)) s)

/-- 20_memory.md R54: the low byte first. A fault of the first read is the one reported. That the two reads are noted, in that
order, is the model's choice, for cartridge providers other than the reference one (log 3); under the reference provider
nothing changes. -/
def Obligations.Read16LowByteFirst : Prop :=
  ∀ (s : State) (addr : Word),
    (∀ lo hi, s.peek addr = some lo → (s.note (.read addr)).peek (addr + 1) = some hi →
      read16 addr s = .ok (join hi lo) ((s.note (.read addr)).note (.read (addr + 1)))) ∧
    (s.peek addr = none → read16 addr s = .raise (.unsupportedRegion addr .read) s) ∧
    (∀ lo, s.peek addr = some lo → (s.note (.read addr)).peek (addr + 1) = none →
      read16 addr s = .raise (.unsupportedRegion (addr + 1) .read) (s.note (.read addr)))

/-- 20_memory.md R55, R56: the high byte first, at addr + 1 modulo 2^16. If its write raises, the low byte is not written; if
the low byte's write raises, the high byte has been written. A byte written reads back, but in a window of a cartridge
provider other than the reference one (R42; log 3). -/
def Obligations.Write16HighByteFirst : Prop :=
  ∀ (s : State) (addr v : Word),
    (Writable (addr + 1) → Writable addr → ∃ s', write16 addr v s = .ok () s' ∧ s'.Holds addr (loByte v) ∧
      s'.Holds (addr + 1) (hiByte v) ∧
      Changes [] [addr, addr + 1] s.pc 0 ((s.note (.write (addr + 1) (hiByte v))).note (.write addr (loByte v))) s') ∧
    (¬ Writable (addr + 1) → write16 addr v s = .raise (.unsupportedRegion (addr + 1) (.write (hiByte v))) s) ∧
    (Writable (addr + 1) → ¬ Writable addr → ∃ s', write16 addr v s = .raise (.unsupportedRegion addr (.write (loByte v))) s' ∧
      s'.Holds (addr + 1) (hiByte v) ∧ Changes [] [addr + 1] s.pc 0 (s.note (.write (addr + 1) (hiByte v))) s')

/-- 20_memory.md R65: after a push16 from SP = s with no fault, the high byte is at s-1, the low byte at s-2 and SP is s-2. In
a window of a cartridge provider other than the reference one, what is read at those addresses is for the provider to say
(R42; log 3). -/
def Obligations.Push16Layout : Prop :=
  ∀ (s s' : State) (v : Word), push16 v s = .ok () s' →
    s'.Holds (s.sp - 1) (hiByte v) ∧ s'.Holds (s.sp - 2) (loByte v) ∧ s'.sp = s.sp - 2 ∧
    Changes [.sp] [s.sp - 1, s.sp - 2] s.pc 0 (s.notePush v) s'

/-- 20_memory.md R66, which the spec derives from R63 to R65: a pop16 after a push16 gives the word back and SP as it was.
Where one of the two addresses lies in a window of a cartridge provider other than the reference one, the pop16 completes
and SP is as it was, and the word is for the provider to say (R42; log 3). -/
def Obligations.PushThenPopRoundTrip : Prop :=
  ∀ (s s' : State) (v : Word), push16 v s = .ok () s' →
    ∃ w s'', pop16 s' = .ok w s'' ∧ s''.sp = s.sp ∧ (¬ s.OpenAt (s.sp - 1) → ¬ s.OpenAt (s.sp - 2) → w = v)

/-- The canonical form of memory (the model's own, R52 and R62 leave it open): two memories in it that read alike at every
address are equal. -/
def Obligations.CanonicalMemoriesThatReadAlikeAreEqual : Prop :=
  ∀ m m' : Memory, m.wf = true → m'.wf = true → (∀ a, m.get a = m'.get a) → m = m'

/-- 20_memory.md R73: the header checksum, subtracting each byte of 0x134 to 0x14C and 1, from 0 (D30); the header is valid
when it equals the byte at 0x14D; and a single corrupted byte in that range makes a valid header invalid. -/
def Obligations.HeaderChecksumDetectsOneCorruptByte : Prop :=
  (∀ image : Memory,
    headerChecksum image = (List.range 25).foldl (fun sum k => sum - image.get (0x134 + k) - 1) 0 ∧
    (headerValid image = true ↔ headerChecksum image = image.get 0x14D)) ∧
  (∀ (image : Memory) (a : Nat) (v : Byte), headerValid image = true → 0x134 ≤ a → a ≤ 0x14C → v ≠ image.get a →
    headerValid (image.set a v) = false)

/-! ## Encoding -/

/-- Words written out from 30_encoding.md section 8 and the examples of files 41 to 45. -/
def Obligations.WordsOfTheTableDecode : Prop :=
  decode [0x00] = .instr .nop [] ∧ decode [0x06, 0x42] = .instr (.ldBD8 0x42) [] ∧
  decode [0x31, 0xFE, 0xFF] = .instr (.ldSPD16 0xFFFE) [] ∧ decode [0x08, 0x00, 0xC0] = .instr (.ldIndA16SP 0xC000) [] ∧
  decode [0x18, 0xF6] = .instr (.jrE8 0xF6) [] ∧ decode [0xCD, 0x10, 0x01] = .instr (.callA16 0x0110) [] ∧
  decode [0xE0, 0x80] = .instr (.ldhIndA8A 0x80) [] ∧ decode [0xF1] = .instr .popAF [] ∧ decode [0x34] = .instr .incIndHL [] ∧
  decode [0xEE, 0x5A] = .instr (.xorD8 0x5A) [] ∧ decode [0xF3] = .instr .di [] ∧ decode [0xFF] = .instr .rst38 [] ∧
  decode [0xCB, 0x37] = .instr (.invalid 0xCB) [0x37] ∧ decode [0x76] = .instr (.invalid 0x76) []

/-- 30_encoding.md R74, R77, R91: for every IMPLEMENTED_SET and every instruction it admits, decoding its encoding gives it
back, with every immediate, whatever bytes follow. -/
def Obligations.DecodeOfEncode : Prop :=
  ∀ (leftOut : List Byte) (i : Instr) (rest : List Byte), i.admitted leftOut = true →
    decodeIn leftOut (encode i ++ rest) = .instr i rest

/-- The other direction: bytes that decode are the encoding of an admitted instruction and what is left. -/
def Obligations.EncodeOfDecode : Prop :=
  ∀ (leftOut bytes rest : List Byte) (i : Instr), decodeIn leftOut bytes = .instr i rest →
    encode i ++ rest = bytes ∧ i.admitted leftOut = true

/-- 30_encoding.md R75, R77, R89, 60_exceptions.md R186: decoding never fails on an opcode; it asks for more bytes exactly
when there are fewer than the opcode's length, which the opcode alone fixes. -/
def Obligations.DecodeRejectsOnlyShortInput : Prop :=
  ∀ leftOut : List Byte,
    decodeIn leftOut [] = .rejected .noOpcode ∧
    ∀ (opcode : Byte) (rest : List Byte),
      ((∃ i tail, decodeIn leftOut (opcode :: rest) = .instr i tail) ↔
        (descOf leftOut opcode).mode.format.length ≤ (opcode :: rest).length) ∧
      ((opcode :: rest).length < (descOf leftOut opcode).mode.format.length →
        decodeIn leftOut (opcode :: rest) = .rejected .missingImmediate)

/-- 30_encoding.md R88: an opcode decodes to INVALID exactly when it is one of the 103 of the list. -/
def Obligations.InvalidOpcodesAreTheListed : Prop :=
  unmappedOpcodes.length = 103 ∧ unmappedOpcodes.Nodup ∧
  ∀ (opcode lo hi : Byte), (∃ rest, decode [opcode, lo, hi] = .instr (.invalid opcode) rest) ↔ opcode ∈ unmappedOpcodes

/-! ## Reset -/

/-- 70_reset_and_hazards.md R196 for every launch: the values the spec gives, INIT_REGS with F masked, the image, and the
parameters, CART among them (00_scope.md R8). A cartridge provider other than the reference one has had no access yet (log
3). -/
def Obligations.LaunchState : Prop :=
  ∀ (image : Memory) (r : Config.InitRegs) (p : Config.Params),
    let s := State.launch image r p
    s.a = r.a ∧ s.f = r.f &&& 0xF0 ∧ s.b = r.b ∧ s.c = r.c ∧ s.d = r.d ∧ s.e = r.e ∧ s.h = r.h ∧ s.l = r.l ∧ s.sp = r.sp ∧
    s.pc = 0x0100 ∧ s.ime = false ∧ s.ie = 0x00 ∧ s.halted = false ∧ s.ticks = 0 ∧ s.status = .running ∧ s.mem = image ∧
    s.cartLog = [] ∧ s.params = p

/-- The invariant holds at reset, and at every launch of an image in canonical form that lists provider addresses only. -/
def Obligations.InvariantAtReset : Prop :=
  State.reset.Inv ∧
  ∀ (image : Memory) (r : Config.InitRegs) (p : Config.Params),
    image.wf = true → (∀ cell ∈ image, ProviderAddr cell.1) → (State.launch image r p).Inv

/-! ## The step -/

/-- 40_step_and_addressing.md R97 to R100, R125: when the bytes at PC decode to an instruction, the step runs it, with PC past
its bytes, the fetch tick and one tick for each immediate byte emitted, and the opcode in the transient state. The
accesses noted are the model's own record of them, empty under the reference cartridge provider (log 3). -/
def Obligations.StepRunsTheDecodedInstruction : Prop :=
  ∀ (s : State) (bytes : List Byte) (i : Instr),
    s.status = .running → s.halted = false → decodeIn s.params.leftOut bytes = .instr i [] → BytesAt s s.pc bytes →
    step s = exec i (afterFetch i s)

/-- 40_step_and_addressing.md R98, R100, R185, R202: a fetch the bus faults on ends the step. At the opcode, PC and the ticks
are as before; at an immediate, they have moved past the bytes read. The whole state left is given: it is the state at the
raise with the status changed, which is item 3 of 60_exceptions.md R182, the spec's own choice (log 7). The accesses noted
are the model's own record of them, empty under the reference cartridge provider (log 3). -/
def Obligations.FetchFaults : Prop :=
  ∀ s : State, s.status = .running → s.halted = false →
    (¬ Readable s.pc →
      step s = .fault (.unsupportedRegion s.pc .read (s.enterFaulted (.unsupportedRegion s.pc .read)))) ∧
    (∀ op, s.peek s.pc = some op → (descOf s.params.leftOut op).mode.format ≠ .op → ¬ Readable (s.pc + 1) →
      step s = .fault (.unsupportedRegion (s.pc + 1) .read
        (({ s.noteReads s.pc 1 with pc := s.pc + 1, ticks := s.ticks + s.params.opcodeFetchTicks } : State).enterFaulted
          (.unsupportedRegion (s.pc + 1) .read)))) ∧
    (∀ op, s.peek s.pc = some op → (descOf s.params.leftOut op).mode.format = .opImm16 → Readable (s.pc + 1) → ¬ Readable (s.pc + 2) →
      step s = .fault (.unsupportedRegion (s.pc + 2) .read
        (({ s.noteReads s.pc 2 with pc := s.pc + 2, ticks := s.ticks + s.params.opcodeFetchTicks + 1 } : State).enterFaulted
          (.unsupportedRegion (s.pc + 2) .read))))

/-- 40_step_and_addressing.md R96: a halted step only ticks, 0 or 1 times. The number is the open parameter HALTED_STEP_TICKS
(log 5). -/
def Obligations.HaltedStepOnlyTicks : Prop :=
  ∀ s : State, s.status = .running → s.halted = true →
    step s = .next { s with ticks := s.ticks + Config.haltedStepTicks } ∧ (Config.haltedStepTicks : Nat) ≤ 1

/-- 40_step_and_addressing.md R95, 10_state.md R30: from Faulted no step answers a next state. That the model answers the
fault alreadyFaulted is its own choice (log 8). -/
def Obligations.FaultedHasNoStep : Prop :=
  ∀ (s : State) (info : FaultInfo), s.status = .faulted info → step s = .fault (.alreadyFaulted info)

/-- 40_step_and_addressing.md R94: the outcome of a step of a running core is Next or a fault with its kind and information;
there is no refusal and no other outcome. -/
def Obligations.StepCompletesOrFaults : Prop :=
  ∀ s : State, s.status = .running →
    (∃ s', step s = .next s') ∨ (∃ opcode pc left, step s = .fault (.invalidInstruction opcode pc left)) ∨
      (∃ addr access left, step s = .fault (.unsupportedRegion addr access left))

/-- 60_exceptions.md R179 to R182: a step of a running core raises InvalidInstruction only for an opcode that is unmapped or
left out of IMPLEMENTED_SET, with PC past the opcode, or UnsupportedRegion only for an address whose window does not take
that direction; and the status left is Faulted with that kind and information. That PC is left past the opcode is about
the state a fault leaves beyond its status, item 3 of R182, the spec's own choice (log 7). -/
def Obligations.FaultsAreTheTwoKinds : Prop :=
  ∀ (s : State) (r : Fault), s.status = .running → step s = .fault r →
    (∃ op left, r = .invalidInstruction op s.pc left ∧ s.peek s.pc = some op ∧
      (op ∈ unmappedOpcodes ∨ op ∈ s.params.leftOut) ∧ left.pc = s.pc + 1 ∧ left.status = .faulted r.info) ∨
    (∃ addr left, r = .unsupportedRegion addr .read left ∧ ¬ Readable addr ∧ left.status = .faulted r.info) ∨
    (∃ addr b left, r = .unsupportedRegion addr (.write b) left ∧ ¬ Writable addr ∧ left.status = .faulted r.info)

/-- The invariant of every step, from every state that has it. -/
def Obligations.StepKeepsTheInvariant : Prop :=
  ∀ s s' : State, s.Inv → step s = .next s' → s'.Inv

/-- 45_system.md R178, 60_exceptions.md R194: no completed step changes halted, and one that completes leaves the core running
(10_state.md R30). That none changes the machine's parameters (00_scope.md R5, R7, R8) rests on the model holding them in
State (log 3, log 4, log 6). -/
def Obligations.StepKeepsHaltedAndParams : Prop :=
  ∀ s s' : State, step s = .next s' → s'.halted = s.halted ∧ s'.params = s.params ∧ s'.status = .running

/-- 10_state.md R29: the transient state never carries meaning across steps. -/
def Obligations.TransientCarriesNothingAcrossSteps : Prop :=
  (∀ (s : State) (t : Transient), s.halted = false → step (s.setT t) = step s) ∧
  (∀ s s' : State, s.halted = false → step s = .next s' → s'.t = .cleared)

/-- 60_exceptions.md R184, 10_state.md R24, R28: no step reads IME or the ticks. Two states that differ only there step alike:
both outcomes are next states, or both the same fault, and they differ only there again. That the states two faults leave
are compared too rests on item 3 of 60_exceptions.md R182, the spec's own choice (log 7). -/
def Obligations.ImeAndTicksNeverDecideAnything : Prop :=
  ∀ (s : State) (b : Bool) (n : Nat), SameButImeTicks (step s) (step { s with ime := b, ticks := n })

/-! ## Rules over all instructions -/

/-- 44_arith_logic.md R175 (a summary the spec derives): an instruction not listed writes no flag. -/
def Obligations.OnlyListedInstructionsWriteFlags : Prop :=
  ∀ (i : Instr) (s s' : State), ¬ WritesFlags i → exec i s = .next s' → s'.f = s.f

/-- 10_state.md R24, 45_system.md R178: DI clears IME and RETI sets it; no other instruction writes it. -/
def Obligations.OnlyDiAndRetiWriteIme : Prop :=
  ∀ (i : Instr) (s s' : State), exec i s = .next s' →
    (i = .di → s'.ime = false) ∧ (i = .reti → s'.ime = true) ∧ (i ≠ .di → i ≠ .reti → s'.ime = s.ime)

/-- 40_step_and_addressing.md R125 (derived there): an instruction that is not a jump, call, return or restart leaves PC at
the address of the next instruction. -/
def Obligations.NonBranchingInstructionsLeavePcAlone : Prop :=
  ∀ (i : Instr) (s s' : State), ¬ Transfers i → exec i s = .next s' → s'.pc = s.pc

/-- 70_reset_and_hazards.md R201: the ticks of a step are OPCODE_FETCH_TICKS, one for each immediate byte, and the extra of
INC rr, LD (a16),SP and RET cc. -/
def Obligations.TicksOfAStep : Prop :=
  ∀ (s s' : State) (bytes : List Byte) (i : Instr),
    s.status = .running → s.halted = false → decodeIn s.params.leftOut bytes = .instr i [] → BytesAt s s.pc bytes →
    step s = .next s' → s'.ticks = s.ticks + s.params.opcodeFetchTicks + (bytes.length - 1) + extraTicks i

/-! ## Instructions: where each completes, its result and its frame -/

/-- 41_load.md R126: NOP does nothing. -/
def Obligations.NopDoesNothing : Prop :=
  ∀ s : State, ∃ s', exec .nop s = .next s' ∧ Changes [] [] s.pc 0 s s'

/-- 41_load.md R128: LD r,r' writes r with the value r' had, and nothing else. -/
def Obligations.LdRegRegCopies : Prop :=
  ∀ form ∈ ldRegRegForms, ∀ s : State, ∃ s', exec form.1 s = .next s' ∧
    s'.read form.2.1 = s.read form.2.2 ∧ Changes [form.2.1] [] s.pc 0 s s'

/-- 41_load.md R131: LD r,d8. -/
def Obligations.LdRegImmWrites : Prop :=
  ∀ (d8 : Byte), ∀ form ∈ ldRegImmForms d8, ∀ s : State, ∃ s', exec form.1 s = .next s' ∧
    s'.read form.2 = zext d8 ∧ Changes [form.2] [] s.pc 0 s s'

/-- 41_load.md R139, R146: LD rr,d16 and LD SP,HL. -/
def Obligations.Ld16Writes : Prop :=
  ∀ (d16 : Word), ∀ form ∈ ldPairForms d16, ∀ s : State, ∃ s', exec form.1 s = .next s' ∧
    s'.read form.2.1 = form.2.2.2 s ∧ Changes form.2.2.1 [] s.pc 0 s s'

/-- 41_load.md R129, R133, R142, R144, R149: a load of one byte reads its address and writes its register; where the window
takes no read it raises UnsupportedRegion(address, Read). That only the status is changed then is item 3 of
60_exceptions.md R182, the spec's own choice (log 7). The accesses noted are the model's own record of them, empty under
the reference cartridge provider (log 3). -/
def Obligations.LoadsReadTheirAddress : Prop :=
  ∀ (a8 : Byte) (a16 : Word), ∀ form ∈ loadForms a8 a16, ∀ s : State,
    (∀ b, s.peek (form.2.2 s) = some b → ∃ s', exec form.1 s = .next s' ∧
      s'.read form.2.1 = zext b ∧ Changes [form.2.1] [] s.pc 0 (s.note (.read (form.2.2 s))) s') ∧
    (¬ Readable (form.2.2 s) → exec form.1 s = .fault (.unsupportedRegion (form.2.2 s) .read
      (s.enterFaulted (.unsupportedRegion (form.2.2 s) .read))))

/-- 41_load.md R135, R136: LD A,(HL+) and LD A,(HL-) read at HL, then step HL; a fault comes before HL changes. That only the
status is changed by the fault is item 3 of 60_exceptions.md R182, the spec's own choice (log 7). The accesses noted are
the model's own record of them, empty under the reference cartridge provider (log 3). -/
def Obligations.LoadsThatStepHl : Prop :=
  ∀ form ∈ hlLoadForms, ∀ s : State,
    (∀ b, s.peek (s.read .hl) = some b → ∃ s', exec form.1 s = .next s' ∧
      s'.a = b ∧ s'.read .hl = s.read .hl + form.2 ∧ Changes [.a, .h, .l] [] s.pc 0 (s.note (.read (s.read .hl))) s') ∧
    (¬ Readable (s.read .hl) → exec form.1 s = .fault (.unsupportedRegion (s.read .hl) .read
      (s.enterFaulted (.unsupportedRegion (s.read .hl) .read))))

/-- 41_load.md R130, R132, R134, R141, R143, R148: a store of one byte writes its byte at its address, and nothing else; where
the window takes no write it raises UnsupportedRegion(address, Write byte). The byte reads back, but in a window of a
cartridge provider other than the reference one, where that is the provider's business (20_memory.md R42; log 3). That
only the status is changed by the fault is 20_memory.md R53 for memory and IE, and for the rest item 3 of 60_exceptions.md
R182, the spec's own choice (log 7). -/
def Obligations.StoresWriteTheirAddress : Prop :=
  ∀ (d8 a8 : Byte) (a16 : Word), ∀ form ∈ storeForms d8 a8 a16, ∀ s : State,
    (Writable (form.2.1 s) → ∃ s', exec form.1 s = .next s' ∧ s'.Holds (form.2.1 s) (form.2.2 s) ∧
      Changes [] [form.2.1 s] s.pc 0 (s.note (.write (form.2.1 s) (form.2.2 s))) s') ∧
    (¬ Writable (form.2.1 s) → exec form.1 s = .fault (.unsupportedRegion (form.2.1 s) (.write (form.2.2 s))
      (s.enterFaulted (.unsupportedRegion (form.2.1 s) (.write (form.2.2 s))))))

/-- 41_load.md R137, R138: LD (HL+),A and LD (HL-),A store A at the old HL and step HL; when the write faults, HL has already
been stepped. The byte reads back, but in a window of a cartridge provider other than the reference one (20_memory.md R42;
log 3). The state left by the fault, with HL stepped and the status changed, is item 3 of 60_exceptions.md R182, the
spec's own choice (log 7). -/
def Obligations.StoresThatStepHl : Prop :=
  ∀ form ∈ hlStoreForms, ∀ s : State,
    (Writable (s.read .hl) → ∃ s', exec form.1 s = .next s' ∧ s'.Holds (s.read .hl) s.a ∧
      s'.read .hl = s.read .hl + form.2 ∧ Changes [.h, .l] [s.read .hl] s.pc 0 (s.note (.write (s.read .hl) s.a)) s') ∧
    (¬ Writable (s.read .hl) → exec form.1 s = .fault (.unsupportedRegion (s.read .hl) (.write s.a)
      ((s.write .hl (s.read .hl + form.2)).enterFaulted (.unsupportedRegion (s.read .hl) (.write s.a)))))

/-- 41_load.md R140: LD (a16),SP stores SP little-endian, with one extra tick; a fault at a16+1 comes before any write. The
bytes read back, but in a window of a cartridge provider other than the reference one (20_memory.md R42; log 3). What the
faults leave, the tick (70_reset_and_hazards.md R202) and every register in the first, is item 3 of 60_exceptions.md R182,
the spec's own choice (log 7). Of the state left by the second, only the high byte is given. -/
def Obligations.LdIndA16SpStoresSp : Prop :=
  ∀ (a16 : Word) (s : State),
    (Writable (a16 + 1) → Writable a16 → ∃ s', exec (.ldIndA16SP a16) s = .next s' ∧ s'.Holds a16 (loByte s.sp) ∧
      s'.Holds (a16 + 1) (hiByte s.sp) ∧
      Changes [] [a16, a16 + 1] s.pc 1 ((s.note (.write (a16 + 1) (hiByte s.sp))).note (.write a16 (loByte s.sp))) s') ∧
    (¬ Writable (a16 + 1) → exec (.ldIndA16SP a16) s = .fault (.unsupportedRegion (a16 + 1) (.write (hiByte s.sp))
      ((s.tick 1).enterFaulted (.unsupportedRegion (a16 + 1) (.write (hiByte s.sp)))))) ∧
    (Writable (a16 + 1) → ¬ Writable a16 → ∃ left, exec (.ldIndA16SP a16) s =
      .fault (.unsupportedRegion a16 (.write (loByte s.sp)) left) ∧ left.Holds (a16 + 1) (hiByte s.sp))

/-- 41_load.md R145: LD HL,SP+e8. Z and N are 0; H and C are the carries from bits 3 and 7 of SP's low byte plus the raw byte
e8; SP is kept. -/
def Obligations.LdHlSpE8AddsAndSetsFlags : Prop :=
  ∀ (e8 : Byte) (s : State), ∃ s', exec (.ldHLSPe8 e8) s = .next s' ∧ s'.read .hl = s.sp + e8.signExtend 16 ∧
    FlagsAre s'.f false false (decide (s.sp.toNat % 16 + e8.toNat % 16 ≥ 16)) (decide (s.sp.toNat % 256 + e8.toNat ≥ 256)) ∧
    Changes [.f, .h, .l] [] s.pc 0 s s'

/-- 42_control_transfer.md R151 to R155: JP a16, JP cc,a16 and JP HL; and JR, which adds its signed displacement to the
address of the next instruction, modulo 2^16. -/
def Obligations.JumpsSetPc : Prop :=
  (∀ (a16 : Word), ∀ form ∈ jpForms a16, ∀ s : State, ∃ s', exec form.1 s = .next s' ∧
    Changes [] [] (if form.2.holds s.f then a16 else s.pc) 0 s s') ∧
  (∀ s : State, ∃ s', exec .jpHL s = .next s' ∧ Changes [] [] (s.read .hl) 0 s s') ∧
  (∀ (e8 : Byte), ∀ form ∈ jrForms e8, ∀ s : State, ∃ s', exec form.1 s = .next s' ∧
    Changes [] [] (if form.2.holds s.f then BitVec.ofInt 16 (s.pc.toNat + e8.toInt) else s.pc) 0 s s')

/-- 42_control_transfer.md R156, R157: a CALL not taken changes nothing; one taken pushes PC and jumps. In a window of a
cartridge provider other than the reference one, what is read there afterwards is the provider's business (20_memory.md
R42; log 3). -/
def Obligations.CallsPushPcAndJump : Prop :=
  ∀ (a16 : Word), ∀ form ∈ callForms a16, ∀ s : State,
    (form.2.holds s.f = false → ∃ s', exec form.1 s = .next s' ∧ Changes [] [] s.pc 0 s s') ∧
    (form.2.holds s.f = true → Writable (s.sp - 1) → Writable (s.sp - 2) → ∃ s', exec form.1 s = .next s' ∧
      s'.Holds (s.sp - 1) (hiByte s.pc) ∧ s'.Holds (s.sp - 2) (loByte s.pc) ∧ s'.sp = s.sp - 2 ∧
      Changes [.sp] [s.sp - 1, s.sp - 2] a16 0 (s.notePush s.pc) s')

/-- 42_control_transfer.md R158 to R160: a RET taken pops PC, low byte first; the conditional forms pay one tick, taken or
not. The accesses noted are the model's own record of them, empty under the reference cartridge provider (log 3). -/
def Obligations.ReturnsPopPc : Prop :=
  ∀ form ∈ retForms, ∀ s : State,
    (form.2.1.holds s.f = false → ∃ s', exec form.1 s = .next s' ∧ Changes [] [] s.pc form.2.2 s s') ∧
    (∀ lo hi, form.2.1.holds s.f = true → s.peek s.sp = some lo → (s.note (.read s.sp)).peek (s.sp + 1) = some hi →
      ∃ s', exec form.1 s = .next s' ∧ s'.sp = s.sp + 2 ∧ Changes [.sp] [] (join hi lo) form.2.2 s.notePop s')

/-- 42_control_transfer.md R161: RETI sets IME and pops PC; IE and the flags are kept. The accesses noted are the model's own
record of them, empty under the reference cartridge provider (log 3). -/
def Obligations.RetiSetsImeAndReturns : Prop :=
  ∀ (s : State) (lo hi : Byte), s.peek s.sp = some lo → (s.note (.read s.sp)).peek (s.sp + 1) = some hi →
    ∃ s', exec .reti s = .next s' ∧ s'.ime = true ∧ s'.sp = s.sp + 2 ∧ Changes [.sp] [] (join hi lo) 0 (s.notePop.setIme true) s'

/-- 42_control_transfer.md R162: RST n pushes PC and jumps to n. In a window of a cartridge provider other than the reference
one, what is read there afterwards is the provider's business (20_memory.md R42; log 3). -/
def Obligations.RestartsPushPcAndJump : Prop :=
  ∀ form ∈ rstForms, ∀ s : State, Writable (s.sp - 1) → Writable (s.sp - 2) → ∃ s', exec form.1 s = .next s' ∧
    s'.Holds (s.sp - 1) (hiByte s.pc) ∧ s'.Holds (s.sp - 2) (loByte s.pc) ∧ s'.sp = s.sp - 2 ∧
    Changes [.sp] [s.sp - 1, s.sp - 2] form.2 0 (s.notePush s.pc) s'

/-- 43_stack.md R164: PUSH rr. In a window of a cartridge provider other than the reference one, what is read there afterwards
is the provider's business (20_memory.md R42; log 3). -/
def Obligations.PushStoresThePair : Prop :=
  ∀ form ∈ pushForms, ∀ s : State, Writable (s.sp - 1) → Writable (s.sp - 2) → ∃ s', exec form.1 s = .next s' ∧
    s'.Holds (s.sp - 1) (hiByte (s.read form.2)) ∧ s'.Holds (s.sp - 2) (loByte (s.read form.2)) ∧ s'.sp = s.sp - 2 ∧
    Changes [.sp] [s.sp - 1, s.sp - 2] s.pc 0 (s.notePush (s.read form.2)) s'

/-- 43_stack.md R165: POP rr for BC, DE and HL. The accesses noted are the model's own record of them, empty under the
reference cartridge provider (log 3). -/
def Obligations.PopLoadsThePair : Prop :=
  ∀ form ∈ popForms, ∀ (s : State) (lo hi : Byte), s.peek s.sp = some lo → (s.note (.read s.sp)).peek (s.sp + 1) = some hi →
    ∃ s', exec form.1 s = .next s' ∧ s'.read form.2.1 = join hi lo ∧ s'.sp = s.sp + 2 ∧
      Changes (.sp :: form.2.2) [] s.pc 0 s.notePop s'

/-- 43_stack.md R166: POP AF loads all four flags from the popped low byte and clears F[3:0]. The accesses noted are the
model's own record of them, empty under the reference cartridge provider (log 3). -/
def Obligations.PopAfMasksF : Prop :=
  ∀ (s : State) (lo hi : Byte), s.peek s.sp = some lo → (s.note (.read s.sp)).peek (s.sp + 1) = some hi →
    ∃ s', exec .popAF s = .next s' ∧ s'.a = hi ∧
      FlagsAre s'.f (lo.getLsbD 7) (lo.getLsbD 6) (lo.getLsbD 5) (lo.getLsbD 4) ∧ s'.sp = s.sp + 2 ∧
      Changes [.a, .f, .sp] [] s.pc 0 s.notePop s'

/-- 60_exceptions.md R181, R182, 20_memory.md R63: a push whose high byte has no writable window at SP-1 raises there, with SP
already decremented once and nothing written; one whose low byte has none at SP-2 raises there, after the high byte was
written. The high byte reads back, but in a window of a cartridge provider other than the reference one (20_memory.md R42;
log 3). Of the state left by the second, SP, PC and the high byte are given. What a fault leaves is item 3 of R182, the
spec's own choice (log 7). -/
def Obligations.PushFaults : Prop :=
  ∀ (a16 : Word) (s : State), ∀ form ∈ pushesWord a16 s,
    (¬ Writable (s.sp - 1) → exec form.1 s = .fault (.unsupportedRegion (s.sp - 1) (.write (hiByte form.2))
      ((s.setSp (s.sp - 1)).enterFaulted (.unsupportedRegion (s.sp - 1) (.write (hiByte form.2)))))) ∧
    (Writable (s.sp - 1) → ¬ Writable (s.sp - 2) → ∃ left, exec form.1 s = .fault (.unsupportedRegion (s.sp - 2) (.write (loByte form.2)) left) ∧
      left.sp = s.sp - 2 ∧ left.pc = s.pc ∧ left.Holds (s.sp - 1) (hiByte form.2))

/-- 60_exceptions.md R181, R182: a pop from a window that takes no read raises at SP, or at SP+1 with SP already incremented
once. RETI's IME is already set, and RET cc's tick is already emitted. What the fault leaves is item 3 of R182, the spec's
own choice (log 7). The accesses noted are the model's own record of them, empty under the reference cartridge provider
(log 3). -/
def Obligations.PopFaults : Prop :=
  ∀ (s : State), ∀ form ∈ popsWord s,
    (¬ Readable s.sp → exec form.1 s = .fault (.unsupportedRegion s.sp .read
      (form.2.enterFaulted (.unsupportedRegion s.sp .read)))) ∧
    (Readable s.sp → ¬ Readable (s.sp + 1) → exec form.1 s = .fault (.unsupportedRegion (s.sp + 1) .read
      (((form.2.note (.read s.sp)).setSp (s.sp + 1)).enterFaulted (.unsupportedRegion (s.sp + 1) .read))))

/-- 44_arith_logic.md R168: INC r wraps at 8 bits; Z and H as the rule gives them, N 0, C kept. The half-carry formula is the
spec's from general knowledge (G14; log 15). -/
def Obligations.IncRegIncrements : Prop :=
  ∀ form ∈ incRegForms, ∀ s : State, ∃ s', exec form.1 s = .next s' ∧
    s'.read form.2 = zext (loByte (s.read form.2) + 1) ∧
    FlagsAre s'.f (loByte (s.read form.2) == 0xFF) false (loByte (s.read form.2) &&& 0x0F == 0x0F) (s.f.getLsbD 4) ∧
    Changes [form.2, .f] [] s.pc 0 s s'

/-- 44_arith_logic.md R169: INC (HL), in its three cases: it completes; the read faults; the window reads 0 and takes no
write. The result reads back, but in a window of a cartridge provider other than the reference one, where R169 says that
it depends on CART (log 3). The half-carry formula is the spec's from general knowledge (G14; log 15). That a faulting
write comes before the flags, so that F is kept, is the spec's decision D29 (log 15), and that only the status is changed
by a fault is item 3 of 60_exceptions.md R182, the spec's own choice (log 7). -/
def Obligations.IncIndHlIncrements : Prop :=
  ∀ s : State,
    (∀ v, s.peek (s.read .hl) = some v → Writable (s.read .hl) → ∃ s', exec .incIndHL s = .next s' ∧
      s'.Holds (s.read .hl) (v + 1) ∧
      FlagsAre s'.f (v == 0xFF) false (v &&& 0x0F == 0x0F) (s.f.getLsbD 4) ∧
      Changes [.f] [s.read .hl] s.pc 0 ((s.note (.read (s.read .hl))).note (.write (s.read .hl) (v + 1))) s') ∧
    (¬ Readable (s.read .hl) → exec .incIndHL s = .fault (.unsupportedRegion (s.read .hl) .read
      (s.enterFaulted (.unsupportedRegion (s.read .hl) .read)))) ∧
    (Readable (s.read .hl) → ¬ Writable (s.read .hl) → exec .incIndHL s = .fault (.unsupportedRegion (s.read .hl) (.write 0x01)
      (s.enterFaulted (.unsupportedRegion (s.read .hl) (.write 0x01)))))

/-- 44_arith_logic.md R170: INC rr wraps at 16 bits, writes no flag and costs one extra tick. -/
def Obligations.IncPairIncrements : Prop :=
  ∀ form ∈ incPairForms, ∀ s : State, ∃ s', exec form.1 s = .next s' ∧
    s'.read form.2.1 = s.read form.2.1 + 1 ∧ Changes form.2.2 [] s.pc 1 s s'

/-- 44_arith_logic.md R171, R172, R174: XOR r and XOR d8. -/
def Obligations.XorExclusiveOrs : Prop :=
  ∀ (d8 : Byte), ∀ form ∈ xorForms d8, ∀ s : State, ∃ s', exec form.1 s = .next s' ∧ s'.a = s.a ^^^ form.2 s ∧
    FlagsAre s'.f (s.a == form.2 s) false false false ∧ Changes [.a, .f] [] s.pc 0 s s'

/-- 44_arith_logic.md R173: XOR (HL), and its fault. That only the status is changed by the fault is item 3 of
60_exceptions.md R182, the spec's own choice (log 7); R173 gives the fault. The accesses noted are the model's own record
of them, empty under the reference cartridge provider (log 3). -/
def Obligations.XorIndHlExclusiveOrs : Prop :=
  ∀ s : State,
    (∀ v, s.peek (s.read .hl) = some v → ∃ s', exec .xorIndHL s = .next s' ∧ s'.a = s.a ^^^ v ∧
      FlagsAre s'.f (s.a == v) false false false ∧ Changes [.a, .f] [] s.pc 0 (s.note (.read (s.read .hl))) s') ∧
    (¬ Readable (s.read .hl) → exec .xorIndHL s = .fault (.unsupportedRegion (s.read .hl) .read
      (s.enterFaulted (.unsupportedRegion (s.read .hl) .read))))

/-- 45_system.md R176: DI clears IME at once; IE and the flags are kept. -/
def Obligations.DiClearsIme : Prop :=
  ∀ s : State, ∃ s', exec .di s = .next s' ∧ s'.ime = false ∧ Changes [] [] s.pc 0 (s.setIme false) s'

/-- 45_system.md R177, 60_exceptions.md R180: INVALID always raises InvalidInstruction with its opcode and its address. That
only the status is changed is item 3 of R182, the spec's own choice (log 7). -/
def Obligations.InvalidAlwaysFaults : Prop :=
  ∀ (opcode : Byte) (s : State), exec (.invalid opcode) s =
    .fault (.invalidInstruction opcode s.t.opcodePc (s.enterFaulted (.invalidInstruction opcode s.t.opcodePc)))
end

