-- ==== Sys2Proof/Laws/Memory.lean ====
section
/-! SUPPORT. The laws of the memory list: read after write, and the canonical form. -/

namespace Sys2Proof.Machine.Memory

theorem get_erase (m : Memory) (a b : Nat) : get (erase m a) b = if b = a then initByte else get m b := by
  induction m with
  | nil => simp [erase, get]
  | cons cell m ih =>
    obtain ⟨k, v⟩ := cell
    by_cases hk : k = a
    · simp only [erase, hk, if_true, ih, get]; split <;> grind
    · simp only [erase, hk, if_false, get, ih]; split <;> grind

theorem get_insert (m : Memory) (a b : Nat) (v : Byte) : get (insert m a v) b = if b = a then v else get m b := by
  induction m with
  | nil => simp [insert, get, eq_comm]
  | cons cell m ih =>
    obtain ⟨k, w⟩ := cell
    simp only [insert]
    split
    · simp only [get, ih]; split <;> grind
    · split
      · simp only [get]; grind
      · simp only [get]; grind

/-- Reading after a store: the stored byte at its address, the byte as before at every other. -/
theorem get_set (m : Memory) (a b : Nat) (v : Byte) : get (set m a v) b = if b = a then v else get m b := by
  unfold set
  split
  · next h => rw [get_erase, h]
  · exact get_insert m a b v

theorem get_set_same (m : Memory) (a : Nat) (v : Byte) : get (set m a v) a = v := by simp [get_set]

theorem get_set_ne (m : Memory) {a b : Nat} (v : Byte) (h : b ≠ a) : get (set m a v) b = get m b := by
  simp [get_set, h]

theorem wfFrom_mono {m : Memory} {lo lo' : Nat} (h : wfFrom lo m = true) (hle : lo' ≤ lo) : wfFrom lo' m = true := by
  cases m with
  | nil => rfl
  | cons cell m => simp only [wfFrom, Bool.and_eq_true, decide_eq_true_eq] at h ⊢; exact ⟨⟨by omega, h.1.2⟩, h.2⟩

theorem wfFrom_erase {m : Memory} {lo : Nat} (a : Nat) (h : wfFrom lo m = true) : wfFrom lo (erase m a) = true := by
  induction m generalizing lo with
  | nil => rfl
  | cons cell m ih =>
    obtain ⟨k, v⟩ := cell
    simp only [wfFrom, Bool.and_eq_true, decide_eq_true_eq] at h
    simp only [erase]
    split
    · exact ih (wfFrom_mono h.2 (by omega))
    · simp only [wfFrom, Bool.and_eq_true, decide_eq_true_eq]; exact ⟨h.1, ih h.2⟩

theorem wfFrom_insert {m : Memory} {lo a : Nat} {v : Byte} (hv : v ≠ initByte) (hlo : lo ≤ a) (h : wfFrom lo m = true) :
    wfFrom lo (insert m a v) = true := by
  induction m generalizing lo with
  | nil => simp [insert, wfFrom, hv, hlo]
  | cons cell m ih =>
    obtain ⟨k, w⟩ := cell
    simp only [wfFrom, Bool.and_eq_true, decide_eq_true_eq] at h
    simp only [insert]
    split
    · simp only [wfFrom, Bool.and_eq_true, decide_eq_true_eq]; exact ⟨h.1, ih (by omega) h.2⟩
    · split
      · next hk => subst hk; simp only [wfFrom, Bool.and_eq_true, decide_eq_true_eq]; exact ⟨⟨hlo, hv⟩, h.2⟩
      · simp only [wfFrom, Bool.and_eq_true, decide_eq_true_eq]
        exact ⟨⟨hlo, hv⟩, ⟨by omega, h.1.2⟩, h.2⟩

/-- Every store keeps the canonical form. -/
theorem wf_set {m : Memory} (a : Nat) (v : Byte) (h : wf m = true) : wf (set m a v) = true := by
  unfold set
  split
  · exact wfFrom_erase a h
  · next hv => exact wfFrom_insert hv (Nat.zero_le a) h

/-- The addresses a store can list: the one stored to, and those listed before. -/
theorem mem_set {m : Memory} {a : Nat} {v : Byte} {cell : Host.Cell} (h : cell ∈ set m a v) : cell.1 = a ∨ cell ∈ m := by
  have herase : ∀ m : Memory, cell ∈ erase m a → cell ∈ m := by
    intro m
    induction m with
    | nil => simp [erase]
    | cons c m ih => simp only [erase]; split <;> grind
  have hinsert : ∀ m : Memory, cell ∈ insert m a v → cell.1 = a ∨ cell ∈ m := by
    intro m
    induction m with
    | nil => simp only [insert, List.mem_singleton]; rintro rfl; simp
    | cons c m ih => simp only [insert]; split <;> [skip; split] <;> simp only [List.mem_cons] <;> grind
  unfold set at h
  split at h
  · exact .inr (herase m h)
  · exact hinsert m h

end Sys2Proof.Machine.Memory
end

