-- ==== Sys2Proof/Laws/State.lean ====
section
/-! SUPPORT. One lemma for each field of State and each update of it, so that no proof unfolds an update. -/

namespace Sys2Proof.Machine

variable (s : State)

/-! ### tick -/

@[simp] theorem State.tick_a (n : Nat) : (s.tick n).a = s.a := rfl
@[simp] theorem State.tick_f (n : Nat) : (s.tick n).f = s.f := rfl
@[simp] theorem State.tick_b (n : Nat) : (s.tick n).b = s.b := rfl
@[simp] theorem State.tick_c (n : Nat) : (s.tick n).c = s.c := rfl
@[simp] theorem State.tick_d (n : Nat) : (s.tick n).d = s.d := rfl
@[simp] theorem State.tick_e (n : Nat) : (s.tick n).e = s.e := rfl
@[simp] theorem State.tick_h (n : Nat) : (s.tick n).h = s.h := rfl
@[simp] theorem State.tick_l (n : Nat) : (s.tick n).l = s.l := rfl
@[simp] theorem State.tick_pc (n : Nat) : (s.tick n).pc = s.pc := rfl
@[simp] theorem State.tick_sp (n : Nat) : (s.tick n).sp = s.sp := rfl
@[simp] theorem State.tick_ime (n : Nat) : (s.tick n).ime = s.ime := rfl
@[simp] theorem State.tick_ie (n : Nat) : (s.tick n).ie = s.ie := rfl
@[simp] theorem State.tick_halted (n : Nat) : (s.tick n).halted = s.halted := rfl
@[simp] theorem State.tick_ticks (n : Nat) : (s.tick n).ticks = s.ticks + n := rfl
@[simp] theorem State.tick_status (n : Nat) : (s.tick n).status = s.status := rfl
@[simp] theorem State.tick_t (n : Nat) : (s.tick n).t = s.t := rfl
@[simp] theorem State.tick_mem (n : Nat) : (s.tick n).mem = s.mem := rfl
@[simp] theorem State.tick_cartLog (n : Nat) : (s.tick n).cartLog = s.cartLog := rfl
@[simp] theorem State.tick_params (n : Nat) : (s.tick n).params = s.params := rfl

/-! ### setPc -/

@[simp] theorem State.setPc_a (v : Word) : (s.setPc v).a = s.a := rfl
@[simp] theorem State.setPc_f (v : Word) : (s.setPc v).f = s.f := rfl
@[simp] theorem State.setPc_b (v : Word) : (s.setPc v).b = s.b := rfl
@[simp] theorem State.setPc_c (v : Word) : (s.setPc v).c = s.c := rfl
@[simp] theorem State.setPc_d (v : Word) : (s.setPc v).d = s.d := rfl
@[simp] theorem State.setPc_e (v : Word) : (s.setPc v).e = s.e := rfl
@[simp] theorem State.setPc_h (v : Word) : (s.setPc v).h = s.h := rfl
@[simp] theorem State.setPc_l (v : Word) : (s.setPc v).l = s.l := rfl
@[simp] theorem State.setPc_pc (v : Word) : (s.setPc v).pc = v := rfl
@[simp] theorem State.setPc_sp (v : Word) : (s.setPc v).sp = s.sp := rfl
@[simp] theorem State.setPc_ime (v : Word) : (s.setPc v).ime = s.ime := rfl
@[simp] theorem State.setPc_ie (v : Word) : (s.setPc v).ie = s.ie := rfl
@[simp] theorem State.setPc_halted (v : Word) : (s.setPc v).halted = s.halted := rfl
@[simp] theorem State.setPc_ticks (v : Word) : (s.setPc v).ticks = s.ticks := rfl
@[simp] theorem State.setPc_status (v : Word) : (s.setPc v).status = s.status := rfl
@[simp] theorem State.setPc_t (v : Word) : (s.setPc v).t = s.t := rfl
@[simp] theorem State.setPc_mem (v : Word) : (s.setPc v).mem = s.mem := rfl
@[simp] theorem State.setPc_cartLog (v : Word) : (s.setPc v).cartLog = s.cartLog := rfl
@[simp] theorem State.setPc_params (v : Word) : (s.setPc v).params = s.params := rfl

/-! ### setSp -/

@[simp] theorem State.setSp_a (v : Word) : (s.setSp v).a = s.a := rfl
@[simp] theorem State.setSp_f (v : Word) : (s.setSp v).f = s.f := rfl
@[simp] theorem State.setSp_b (v : Word) : (s.setSp v).b = s.b := rfl
@[simp] theorem State.setSp_c (v : Word) : (s.setSp v).c = s.c := rfl
@[simp] theorem State.setSp_d (v : Word) : (s.setSp v).d = s.d := rfl
@[simp] theorem State.setSp_e (v : Word) : (s.setSp v).e = s.e := rfl
@[simp] theorem State.setSp_h (v : Word) : (s.setSp v).h = s.h := rfl
@[simp] theorem State.setSp_l (v : Word) : (s.setSp v).l = s.l := rfl
@[simp] theorem State.setSp_pc (v : Word) : (s.setSp v).pc = s.pc := rfl
@[simp] theorem State.setSp_sp (v : Word) : (s.setSp v).sp = v := rfl
@[simp] theorem State.setSp_ime (v : Word) : (s.setSp v).ime = s.ime := rfl
@[simp] theorem State.setSp_ie (v : Word) : (s.setSp v).ie = s.ie := rfl
@[simp] theorem State.setSp_halted (v : Word) : (s.setSp v).halted = s.halted := rfl
@[simp] theorem State.setSp_ticks (v : Word) : (s.setSp v).ticks = s.ticks := rfl
@[simp] theorem State.setSp_status (v : Word) : (s.setSp v).status = s.status := rfl
@[simp] theorem State.setSp_t (v : Word) : (s.setSp v).t = s.t := rfl
@[simp] theorem State.setSp_mem (v : Word) : (s.setSp v).mem = s.mem := rfl
@[simp] theorem State.setSp_cartLog (v : Word) : (s.setSp v).cartLog = s.cartLog := rfl
@[simp] theorem State.setSp_params (v : Word) : (s.setSp v).params = s.params := rfl

/-! ### setIme -/

@[simp] theorem State.setIme_a (v : Bool) : (s.setIme v).a = s.a := rfl
@[simp] theorem State.setIme_f (v : Bool) : (s.setIme v).f = s.f := rfl
@[simp] theorem State.setIme_b (v : Bool) : (s.setIme v).b = s.b := rfl
@[simp] theorem State.setIme_c (v : Bool) : (s.setIme v).c = s.c := rfl
@[simp] theorem State.setIme_d (v : Bool) : (s.setIme v).d = s.d := rfl
@[simp] theorem State.setIme_e (v : Bool) : (s.setIme v).e = s.e := rfl
@[simp] theorem State.setIme_h (v : Bool) : (s.setIme v).h = s.h := rfl
@[simp] theorem State.setIme_l (v : Bool) : (s.setIme v).l = s.l := rfl
@[simp] theorem State.setIme_pc (v : Bool) : (s.setIme v).pc = s.pc := rfl
@[simp] theorem State.setIme_sp (v : Bool) : (s.setIme v).sp = s.sp := rfl
@[simp] theorem State.setIme_ime (v : Bool) : (s.setIme v).ime = v := rfl
@[simp] theorem State.setIme_ie (v : Bool) : (s.setIme v).ie = s.ie := rfl
@[simp] theorem State.setIme_halted (v : Bool) : (s.setIme v).halted = s.halted := rfl
@[simp] theorem State.setIme_ticks (v : Bool) : (s.setIme v).ticks = s.ticks := rfl
@[simp] theorem State.setIme_status (v : Bool) : (s.setIme v).status = s.status := rfl
@[simp] theorem State.setIme_t (v : Bool) : (s.setIme v).t = s.t := rfl
@[simp] theorem State.setIme_mem (v : Bool) : (s.setIme v).mem = s.mem := rfl
@[simp] theorem State.setIme_cartLog (v : Bool) : (s.setIme v).cartLog = s.cartLog := rfl
@[simp] theorem State.setIme_params (v : Bool) : (s.setIme v).params = s.params := rfl

/-! ### setIe -/

@[simp] theorem State.setIe_a (v : Byte) : (s.setIe v).a = s.a := rfl
@[simp] theorem State.setIe_f (v : Byte) : (s.setIe v).f = s.f := rfl
@[simp] theorem State.setIe_b (v : Byte) : (s.setIe v).b = s.b := rfl
@[simp] theorem State.setIe_c (v : Byte) : (s.setIe v).c = s.c := rfl
@[simp] theorem State.setIe_d (v : Byte) : (s.setIe v).d = s.d := rfl
@[simp] theorem State.setIe_e (v : Byte) : (s.setIe v).e = s.e := rfl
@[simp] theorem State.setIe_h (v : Byte) : (s.setIe v).h = s.h := rfl
@[simp] theorem State.setIe_l (v : Byte) : (s.setIe v).l = s.l := rfl
@[simp] theorem State.setIe_pc (v : Byte) : (s.setIe v).pc = s.pc := rfl
@[simp] theorem State.setIe_sp (v : Byte) : (s.setIe v).sp = s.sp := rfl
@[simp] theorem State.setIe_ime (v : Byte) : (s.setIe v).ime = s.ime := rfl
@[simp] theorem State.setIe_ie (v : Byte) : (s.setIe v).ie = v := rfl
@[simp] theorem State.setIe_halted (v : Byte) : (s.setIe v).halted = s.halted := rfl
@[simp] theorem State.setIe_ticks (v : Byte) : (s.setIe v).ticks = s.ticks := rfl
@[simp] theorem State.setIe_status (v : Byte) : (s.setIe v).status = s.status := rfl
@[simp] theorem State.setIe_t (v : Byte) : (s.setIe v).t = s.t := rfl
@[simp] theorem State.setIe_mem (v : Byte) : (s.setIe v).mem = s.mem := rfl
@[simp] theorem State.setIe_cartLog (v : Byte) : (s.setIe v).cartLog = s.cartLog := rfl
@[simp] theorem State.setIe_params (v : Byte) : (s.setIe v).params = s.params := rfl

/-! ### setF -/

@[simp] theorem State.setF_a (v : Byte) : (s.setF v).a = s.a := rfl
@[simp] theorem State.setF_f (v : Byte) : (s.setF v).f = v &&& 0xF0 := rfl
@[simp] theorem State.setF_b (v : Byte) : (s.setF v).b = s.b := rfl
@[simp] theorem State.setF_c (v : Byte) : (s.setF v).c = s.c := rfl
@[simp] theorem State.setF_d (v : Byte) : (s.setF v).d = s.d := rfl
@[simp] theorem State.setF_e (v : Byte) : (s.setF v).e = s.e := rfl
@[simp] theorem State.setF_h (v : Byte) : (s.setF v).h = s.h := rfl
@[simp] theorem State.setF_l (v : Byte) : (s.setF v).l = s.l := rfl
@[simp] theorem State.setF_pc (v : Byte) : (s.setF v).pc = s.pc := rfl
@[simp] theorem State.setF_sp (v : Byte) : (s.setF v).sp = s.sp := rfl
@[simp] theorem State.setF_ime (v : Byte) : (s.setF v).ime = s.ime := rfl
@[simp] theorem State.setF_ie (v : Byte) : (s.setF v).ie = s.ie := rfl
@[simp] theorem State.setF_halted (v : Byte) : (s.setF v).halted = s.halted := rfl
@[simp] theorem State.setF_ticks (v : Byte) : (s.setF v).ticks = s.ticks := rfl
@[simp] theorem State.setF_status (v : Byte) : (s.setF v).status = s.status := rfl
@[simp] theorem State.setF_t (v : Byte) : (s.setF v).t = s.t := rfl
@[simp] theorem State.setF_mem (v : Byte) : (s.setF v).mem = s.mem := rfl
@[simp] theorem State.setF_cartLog (v : Byte) : (s.setF v).cartLog = s.cartLog := rfl
@[simp] theorem State.setF_params (v : Byte) : (s.setF v).params = s.params := rfl

/-! ### setStatus -/

@[simp] theorem State.setStatus_a (v : Status) : (s.setStatus v).a = s.a := rfl
@[simp] theorem State.setStatus_f (v : Status) : (s.setStatus v).f = s.f := rfl
@[simp] theorem State.setStatus_b (v : Status) : (s.setStatus v).b = s.b := rfl
@[simp] theorem State.setStatus_c (v : Status) : (s.setStatus v).c = s.c := rfl
@[simp] theorem State.setStatus_d (v : Status) : (s.setStatus v).d = s.d := rfl
@[simp] theorem State.setStatus_e (v : Status) : (s.setStatus v).e = s.e := rfl
@[simp] theorem State.setStatus_h (v : Status) : (s.setStatus v).h = s.h := rfl
@[simp] theorem State.setStatus_l (v : Status) : (s.setStatus v).l = s.l := rfl
@[simp] theorem State.setStatus_pc (v : Status) : (s.setStatus v).pc = s.pc := rfl
@[simp] theorem State.setStatus_sp (v : Status) : (s.setStatus v).sp = s.sp := rfl
@[simp] theorem State.setStatus_ime (v : Status) : (s.setStatus v).ime = s.ime := rfl
@[simp] theorem State.setStatus_ie (v : Status) : (s.setStatus v).ie = s.ie := rfl
@[simp] theorem State.setStatus_halted (v : Status) : (s.setStatus v).halted = s.halted := rfl
@[simp] theorem State.setStatus_ticks (v : Status) : (s.setStatus v).ticks = s.ticks := rfl
@[simp] theorem State.setStatus_status (v : Status) : (s.setStatus v).status = v := rfl
@[simp] theorem State.setStatus_t (v : Status) : (s.setStatus v).t = s.t := rfl
@[simp] theorem State.setStatus_mem (v : Status) : (s.setStatus v).mem = s.mem := rfl
@[simp] theorem State.setStatus_cartLog (v : Status) : (s.setStatus v).cartLog = s.cartLog := rfl
@[simp] theorem State.setStatus_params (v : Status) : (s.setStatus v).params = s.params := rfl

/-! ### setT -/

@[simp] theorem State.setT_a (v : Transient) : (s.setT v).a = s.a := rfl
@[simp] theorem State.setT_f (v : Transient) : (s.setT v).f = s.f := rfl
@[simp] theorem State.setT_b (v : Transient) : (s.setT v).b = s.b := rfl
@[simp] theorem State.setT_c (v : Transient) : (s.setT v).c = s.c := rfl
@[simp] theorem State.setT_d (v : Transient) : (s.setT v).d = s.d := rfl
@[simp] theorem State.setT_e (v : Transient) : (s.setT v).e = s.e := rfl
@[simp] theorem State.setT_h (v : Transient) : (s.setT v).h = s.h := rfl
@[simp] theorem State.setT_l (v : Transient) : (s.setT v).l = s.l := rfl
@[simp] theorem State.setT_pc (v : Transient) : (s.setT v).pc = s.pc := rfl
@[simp] theorem State.setT_sp (v : Transient) : (s.setT v).sp = s.sp := rfl
@[simp] theorem State.setT_ime (v : Transient) : (s.setT v).ime = s.ime := rfl
@[simp] theorem State.setT_ie (v : Transient) : (s.setT v).ie = s.ie := rfl
@[simp] theorem State.setT_halted (v : Transient) : (s.setT v).halted = s.halted := rfl
@[simp] theorem State.setT_ticks (v : Transient) : (s.setT v).ticks = s.ticks := rfl
@[simp] theorem State.setT_status (v : Transient) : (s.setT v).status = s.status := rfl
@[simp] theorem State.setT_t (v : Transient) : (s.setT v).t = v := rfl
@[simp] theorem State.setT_mem (v : Transient) : (s.setT v).mem = s.mem := rfl
@[simp] theorem State.setT_cartLog (v : Transient) : (s.setT v).cartLog = s.cartLog := rfl
@[simp] theorem State.setT_params (v : Transient) : (s.setT v).params = s.params := rfl

/-! ### store -/

@[simp] theorem State.store_a (addr : Word) (v : Byte) : (s.store addr v).a = s.a := rfl
@[simp] theorem State.store_f (addr : Word) (v : Byte) : (s.store addr v).f = s.f := rfl
@[simp] theorem State.store_b (addr : Word) (v : Byte) : (s.store addr v).b = s.b := rfl
@[simp] theorem State.store_c (addr : Word) (v : Byte) : (s.store addr v).c = s.c := rfl
@[simp] theorem State.store_d (addr : Word) (v : Byte) : (s.store addr v).d = s.d := rfl
@[simp] theorem State.store_e (addr : Word) (v : Byte) : (s.store addr v).e = s.e := rfl
@[simp] theorem State.store_h (addr : Word) (v : Byte) : (s.store addr v).h = s.h := rfl
@[simp] theorem State.store_l (addr : Word) (v : Byte) : (s.store addr v).l = s.l := rfl
@[simp] theorem State.store_pc (addr : Word) (v : Byte) : (s.store addr v).pc = s.pc := rfl
@[simp] theorem State.store_sp (addr : Word) (v : Byte) : (s.store addr v).sp = s.sp := rfl
@[simp] theorem State.store_ime (addr : Word) (v : Byte) : (s.store addr v).ime = s.ime := rfl
@[simp] theorem State.store_ie (addr : Word) (v : Byte) : (s.store addr v).ie = s.ie := rfl
@[simp] theorem State.store_halted (addr : Word) (v : Byte) : (s.store addr v).halted = s.halted := rfl
@[simp] theorem State.store_ticks (addr : Word) (v : Byte) : (s.store addr v).ticks = s.ticks := rfl
@[simp] theorem State.store_status (addr : Word) (v : Byte) : (s.store addr v).status = s.status := rfl
@[simp] theorem State.store_t (addr : Word) (v : Byte) : (s.store addr v).t = s.t := rfl
@[simp] theorem State.store_mem (addr : Word) (v : Byte) : (s.store addr v).mem = s.mem.set addr.toNat v := rfl
@[simp] theorem State.store_cartLog (addr : Word) (v : Byte) : (s.store addr v).cartLog = s.cartLog := rfl
@[simp] theorem State.store_params (addr : Word) (v : Byte) : (s.store addr v).params = s.params := rfl

/-! ### setCurOpcode -/

@[simp] theorem State.setCurOpcode_a (v : Byte) : (s.setCurOpcode v).a = s.a := rfl
@[simp] theorem State.setCurOpcode_f (v : Byte) : (s.setCurOpcode v).f = s.f := rfl
@[simp] theorem State.setCurOpcode_b (v : Byte) : (s.setCurOpcode v).b = s.b := rfl
@[simp] theorem State.setCurOpcode_c (v : Byte) : (s.setCurOpcode v).c = s.c := rfl
@[simp] theorem State.setCurOpcode_d (v : Byte) : (s.setCurOpcode v).d = s.d := rfl
@[simp] theorem State.setCurOpcode_e (v : Byte) : (s.setCurOpcode v).e = s.e := rfl
@[simp] theorem State.setCurOpcode_h (v : Byte) : (s.setCurOpcode v).h = s.h := rfl
@[simp] theorem State.setCurOpcode_l (v : Byte) : (s.setCurOpcode v).l = s.l := rfl
@[simp] theorem State.setCurOpcode_pc (v : Byte) : (s.setCurOpcode v).pc = s.pc := rfl
@[simp] theorem State.setCurOpcode_sp (v : Byte) : (s.setCurOpcode v).sp = s.sp := rfl
@[simp] theorem State.setCurOpcode_ime (v : Byte) : (s.setCurOpcode v).ime = s.ime := rfl
@[simp] theorem State.setCurOpcode_ie (v : Byte) : (s.setCurOpcode v).ie = s.ie := rfl
@[simp] theorem State.setCurOpcode_halted (v : Byte) : (s.setCurOpcode v).halted = s.halted := rfl
@[simp] theorem State.setCurOpcode_ticks (v : Byte) : (s.setCurOpcode v).ticks = s.ticks := rfl
@[simp] theorem State.setCurOpcode_status (v : Byte) : (s.setCurOpcode v).status = s.status := rfl
@[simp] theorem State.setCurOpcode_t (v : Byte) : (s.setCurOpcode v).t = { s.t with curOpcode := v } := rfl
@[simp] theorem State.setCurOpcode_mem (v : Byte) : (s.setCurOpcode v).mem = s.mem := rfl
@[simp] theorem State.setCurOpcode_cartLog (v : Byte) : (s.setCurOpcode v).cartLog = s.cartLog := rfl
@[simp] theorem State.setCurOpcode_params (v : Byte) : (s.setCurOpcode v).params = s.params := rfl

/-! ### setFetched -/

@[simp] theorem State.setFetched_a (v : Word) : (s.setFetched v).a = s.a := rfl
@[simp] theorem State.setFetched_f (v : Word) : (s.setFetched v).f = s.f := rfl
@[simp] theorem State.setFetched_b (v : Word) : (s.setFetched v).b = s.b := rfl
@[simp] theorem State.setFetched_c (v : Word) : (s.setFetched v).c = s.c := rfl
@[simp] theorem State.setFetched_d (v : Word) : (s.setFetched v).d = s.d := rfl
@[simp] theorem State.setFetched_e (v : Word) : (s.setFetched v).e = s.e := rfl
@[simp] theorem State.setFetched_h (v : Word) : (s.setFetched v).h = s.h := rfl
@[simp] theorem State.setFetched_l (v : Word) : (s.setFetched v).l = s.l := rfl
@[simp] theorem State.setFetched_pc (v : Word) : (s.setFetched v).pc = s.pc := rfl
@[simp] theorem State.setFetched_sp (v : Word) : (s.setFetched v).sp = s.sp := rfl
@[simp] theorem State.setFetched_ime (v : Word) : (s.setFetched v).ime = s.ime := rfl
@[simp] theorem State.setFetched_ie (v : Word) : (s.setFetched v).ie = s.ie := rfl
@[simp] theorem State.setFetched_halted (v : Word) : (s.setFetched v).halted = s.halted := rfl
@[simp] theorem State.setFetched_ticks (v : Word) : (s.setFetched v).ticks = s.ticks := rfl
@[simp] theorem State.setFetched_status (v : Word) : (s.setFetched v).status = s.status := rfl
@[simp] theorem State.setFetched_t (v : Word) : (s.setFetched v).t = { s.t with fetched := v } := rfl
@[simp] theorem State.setFetched_mem (v : Word) : (s.setFetched v).mem = s.mem := rfl
@[simp] theorem State.setFetched_cartLog (v : Word) : (s.setFetched v).cartLog = s.cartLog := rfl
@[simp] theorem State.setFetched_params (v : Word) : (s.setFetched v).params = s.params := rfl

/-! ### setMemDest -/

@[simp] theorem State.setMemDest_a (addr : Word) : (s.setMemDest addr).a = s.a := rfl
@[simp] theorem State.setMemDest_f (addr : Word) : (s.setMemDest addr).f = s.f := rfl
@[simp] theorem State.setMemDest_b (addr : Word) : (s.setMemDest addr).b = s.b := rfl
@[simp] theorem State.setMemDest_c (addr : Word) : (s.setMemDest addr).c = s.c := rfl
@[simp] theorem State.setMemDest_d (addr : Word) : (s.setMemDest addr).d = s.d := rfl
@[simp] theorem State.setMemDest_e (addr : Word) : (s.setMemDest addr).e = s.e := rfl
@[simp] theorem State.setMemDest_h (addr : Word) : (s.setMemDest addr).h = s.h := rfl
@[simp] theorem State.setMemDest_l (addr : Word) : (s.setMemDest addr).l = s.l := rfl
@[simp] theorem State.setMemDest_pc (addr : Word) : (s.setMemDest addr).pc = s.pc := rfl
@[simp] theorem State.setMemDest_sp (addr : Word) : (s.setMemDest addr).sp = s.sp := rfl
@[simp] theorem State.setMemDest_ime (addr : Word) : (s.setMemDest addr).ime = s.ime := rfl
@[simp] theorem State.setMemDest_ie (addr : Word) : (s.setMemDest addr).ie = s.ie := rfl
@[simp] theorem State.setMemDest_halted (addr : Word) : (s.setMemDest addr).halted = s.halted := rfl
@[simp] theorem State.setMemDest_ticks (addr : Word) : (s.setMemDest addr).ticks = s.ticks := rfl
@[simp] theorem State.setMemDest_status (addr : Word) : (s.setMemDest addr).status = s.status := rfl
@[simp] theorem State.setMemDest_t (addr : Word) : (s.setMemDest addr).t = { s.t with destIsMem := true, memDest := addr } := rfl
@[simp] theorem State.setMemDest_mem (addr : Word) : (s.setMemDest addr).mem = s.mem := rfl
@[simp] theorem State.setMemDest_cartLog (addr : Word) : (s.setMemDest addr).cartLog = s.cartLog := rfl
@[simp] theorem State.setMemDest_params (addr : Word) : (s.setMemDest addr).params = s.params := rfl

/-! ### discard -/

@[simp] theorem State.discard_a : (s.discard).a = s.a := rfl
@[simp] theorem State.discard_f : (s.discard).f = s.f := rfl
@[simp] theorem State.discard_b : (s.discard).b = s.b := rfl
@[simp] theorem State.discard_c : (s.discard).c = s.c := rfl
@[simp] theorem State.discard_d : (s.discard).d = s.d := rfl
@[simp] theorem State.discard_e : (s.discard).e = s.e := rfl
@[simp] theorem State.discard_h : (s.discard).h = s.h := rfl
@[simp] theorem State.discard_l : (s.discard).l = s.l := rfl
@[simp] theorem State.discard_pc : (s.discard).pc = s.pc := rfl
@[simp] theorem State.discard_sp : (s.discard).sp = s.sp := rfl
@[simp] theorem State.discard_ime : (s.discard).ime = s.ime := rfl
@[simp] theorem State.discard_ie : (s.discard).ie = s.ie := rfl
@[simp] theorem State.discard_halted : (s.discard).halted = s.halted := rfl
@[simp] theorem State.discard_ticks : (s.discard).ticks = s.ticks := rfl
@[simp] theorem State.discard_status : (s.discard).status = s.status := rfl
@[simp] theorem State.discard_t : (s.discard).t = Transient.cleared := rfl
@[simp] theorem State.discard_mem : (s.discard).mem = s.mem := rfl
@[simp] theorem State.discard_cartLog : (s.discard).cartLog = s.cartLog := rfl
@[simp] theorem State.discard_params : (s.discard).params = s.params := rfl

/-! ### beginResolve -/

@[simp] theorem State.beginResolve_a (d : Desc) : (s.beginResolve d).a = s.a := rfl
@[simp] theorem State.beginResolve_f (d : Desc) : (s.beginResolve d).f = s.f := rfl
@[simp] theorem State.beginResolve_b (d : Desc) : (s.beginResolve d).b = s.b := rfl
@[simp] theorem State.beginResolve_c (d : Desc) : (s.beginResolve d).c = s.c := rfl
@[simp] theorem State.beginResolve_d (d : Desc) : (s.beginResolve d).d = s.d := rfl
@[simp] theorem State.beginResolve_e (d : Desc) : (s.beginResolve d).e = s.e := rfl
@[simp] theorem State.beginResolve_h (d : Desc) : (s.beginResolve d).h = s.h := rfl
@[simp] theorem State.beginResolve_l (d : Desc) : (s.beginResolve d).l = s.l := rfl
@[simp] theorem State.beginResolve_pc (d : Desc) : (s.beginResolve d).pc = s.pc := rfl
@[simp] theorem State.beginResolve_sp (d : Desc) : (s.beginResolve d).sp = s.sp := rfl
@[simp] theorem State.beginResolve_ime (d : Desc) : (s.beginResolve d).ime = s.ime := rfl
@[simp] theorem State.beginResolve_ie (d : Desc) : (s.beginResolve d).ie = s.ie := rfl
@[simp] theorem State.beginResolve_halted (d : Desc) : (s.beginResolve d).halted = s.halted := rfl
@[simp] theorem State.beginResolve_ticks (d : Desc) : (s.beginResolve d).ticks = s.ticks := rfl
@[simp] theorem State.beginResolve_status (d : Desc) : (s.beginResolve d).status = s.status := rfl
@[simp] theorem State.beginResolve_t (d : Desc) : (s.beginResolve d).t = { s.t with curDesc := d, fetched := 0, destIsMem := false, memDest := 0, sprH := false, sprC := false } := rfl
@[simp] theorem State.beginResolve_mem (d : Desc) : (s.beginResolve d).mem = s.mem := rfl
@[simp] theorem State.beginResolve_cartLog (d : Desc) : (s.beginResolve d).cartLog = s.cartLog := rfl
@[simp] theorem State.beginResolve_params (d : Desc) : (s.beginResolve d).params = s.params := rfl

/-! ### enterFaulted -/

@[simp] theorem State.enterFaulted_a (info : FaultInfo) : (s.enterFaulted info).a = s.a := rfl
@[simp] theorem State.enterFaulted_f (info : FaultInfo) : (s.enterFaulted info).f = s.f := rfl
@[simp] theorem State.enterFaulted_b (info : FaultInfo) : (s.enterFaulted info).b = s.b := rfl
@[simp] theorem State.enterFaulted_c (info : FaultInfo) : (s.enterFaulted info).c = s.c := rfl
@[simp] theorem State.enterFaulted_d (info : FaultInfo) : (s.enterFaulted info).d = s.d := rfl
@[simp] theorem State.enterFaulted_e (info : FaultInfo) : (s.enterFaulted info).e = s.e := rfl
@[simp] theorem State.enterFaulted_h (info : FaultInfo) : (s.enterFaulted info).h = s.h := rfl
@[simp] theorem State.enterFaulted_l (info : FaultInfo) : (s.enterFaulted info).l = s.l := rfl
@[simp] theorem State.enterFaulted_pc (info : FaultInfo) : (s.enterFaulted info).pc = s.pc := rfl
@[simp] theorem State.enterFaulted_sp (info : FaultInfo) : (s.enterFaulted info).sp = s.sp := rfl
@[simp] theorem State.enterFaulted_ime (info : FaultInfo) : (s.enterFaulted info).ime = s.ime := rfl
@[simp] theorem State.enterFaulted_ie (info : FaultInfo) : (s.enterFaulted info).ie = s.ie := rfl
@[simp] theorem State.enterFaulted_halted (info : FaultInfo) : (s.enterFaulted info).halted = s.halted := rfl
@[simp] theorem State.enterFaulted_ticks (info : FaultInfo) : (s.enterFaulted info).ticks = s.ticks := rfl
@[simp] theorem State.enterFaulted_status (info : FaultInfo) : (s.enterFaulted info).status = .faulted info := rfl
@[simp] theorem State.enterFaulted_t (info : FaultInfo) : (s.enterFaulted info).t = Transient.cleared := rfl
@[simp] theorem State.enterFaulted_mem (info : FaultInfo) : (s.enterFaulted info).mem = s.mem := rfl
@[simp] theorem State.enterFaulted_cartLog (info : FaultInfo) : (s.enterFaulted info).cartLog = s.cartLog := rfl
@[simp] theorem State.enterFaulted_params (info : FaultInfo) : (s.enterFaulted info).params = s.params := rfl

/-! ### Writing a register leaves the rest of the state alone -/

@[simp] theorem State.write_ime (r : Reg) (v : Word) : (s.write r v).ime = s.ime := by cases r <;> rfl
@[simp] theorem State.write_ie (r : Reg) (v : Word) : (s.write r v).ie = s.ie := by cases r <;> rfl
@[simp] theorem State.write_halted (r : Reg) (v : Word) : (s.write r v).halted = s.halted := by cases r <;> rfl
@[simp] theorem State.write_ticks (r : Reg) (v : Word) : (s.write r v).ticks = s.ticks := by cases r <;> rfl
@[simp] theorem State.write_status (r : Reg) (v : Word) : (s.write r v).status = s.status := by cases r <;> rfl
@[simp] theorem State.write_t (r : Reg) (v : Word) : (s.write r v).t = s.t := by cases r <;> rfl
@[simp] theorem State.write_mem (r : Reg) (v : Word) : (s.write r v).mem = s.mem := by cases r <;> rfl
@[simp] theorem State.write_cartLog (r : Reg) (v : Word) : (s.write r v).cartLog = s.cartLog := by cases r <;> rfl
@[simp] theorem State.write_params (r : Reg) (v : Word) : (s.write r v).params = s.params := by cases r <;> rfl

@[simp] theorem read_addr (a : Word) : (Config.CartAccess.read a).addr = a := rfl
@[simp] theorem write_addr (a : Word) (b : Byte) : (Config.CartAccess.write a b).addr = a := rfl

/-! ### A note to the cartridge provider changes its record of accesses only -/

@[simp] theorem State.note_cartLog (x : Config.CartAccess) :
    (s.note x).cartLog = if s.OpenAt x.addr then x :: s.cartLog else s.cartLog := by unfold State.note; split <;> rfl
@[simp] theorem State.note_a (x : Config.CartAccess) : (s.note x).a = s.a := by unfold State.note; split <;> rfl
@[simp] theorem State.note_f (x : Config.CartAccess) : (s.note x).f = s.f := by unfold State.note; split <;> rfl
@[simp] theorem State.note_b (x : Config.CartAccess) : (s.note x).b = s.b := by unfold State.note; split <;> rfl
@[simp] theorem State.note_c (x : Config.CartAccess) : (s.note x).c = s.c := by unfold State.note; split <;> rfl
@[simp] theorem State.note_d (x : Config.CartAccess) : (s.note x).d = s.d := by unfold State.note; split <;> rfl
@[simp] theorem State.note_e (x : Config.CartAccess) : (s.note x).e = s.e := by unfold State.note; split <;> rfl
@[simp] theorem State.note_h (x : Config.CartAccess) : (s.note x).h = s.h := by unfold State.note; split <;> rfl
@[simp] theorem State.note_l (x : Config.CartAccess) : (s.note x).l = s.l := by unfold State.note; split <;> rfl
@[simp] theorem State.note_pc (x : Config.CartAccess) : (s.note x).pc = s.pc := by unfold State.note; split <;> rfl
@[simp] theorem State.note_sp (x : Config.CartAccess) : (s.note x).sp = s.sp := by unfold State.note; split <;> rfl
@[simp] theorem State.note_ime (x : Config.CartAccess) : (s.note x).ime = s.ime := by unfold State.note; split <;> rfl
@[simp] theorem State.note_ie (x : Config.CartAccess) : (s.note x).ie = s.ie := by unfold State.note; split <;> rfl
@[simp] theorem State.note_halted (x : Config.CartAccess) : (s.note x).halted = s.halted := by unfold State.note; split <;> rfl
@[simp] theorem State.note_ticks (x : Config.CartAccess) : (s.note x).ticks = s.ticks := by unfold State.note; split <;> rfl
@[simp] theorem State.note_status (x : Config.CartAccess) : (s.note x).status = s.status := by unfold State.note; split <;> rfl
@[simp] theorem State.note_t (x : Config.CartAccess) : (s.note x).t = s.t := by unfold State.note; split <;> rfl
@[simp] theorem State.note_mem (x : Config.CartAccess) : (s.note x).mem = s.mem := by unfold State.note; split <;> rfl
@[simp] theorem State.note_params (x : Config.CartAccess) : (s.note x).params = s.params := by unfold State.note; split <;> rfl
@[simp] theorem State.read_note (x : Config.CartAccess) (r : Reg) : (s.note x).read r = s.read r := by cases r <;> simp [State.read]

/-! It commutes with every update that is not an access of its own. -/

@[simp] theorem State.note_tick (n : Nat) (x : Config.CartAccess) : (s.tick n).note x = (s.note x).tick n := by
  by_cases h : s.OpenAt x.addr
  · rw [State.note, if_pos (show (s.tick n).OpenAt x.addr from h), State.note, if_pos h]; rfl
  · rw [State.note, if_neg (show ¬ (s.tick n).OpenAt x.addr from h), State.note, if_neg h]
@[simp] theorem State.note_setPc (v : Word) (x : Config.CartAccess) : (s.setPc v).note x = (s.note x).setPc v := by
  by_cases h : s.OpenAt x.addr
  · rw [State.note, if_pos (show (s.setPc v).OpenAt x.addr from h), State.note, if_pos h]; rfl
  · rw [State.note, if_neg (show ¬ (s.setPc v).OpenAt x.addr from h), State.note, if_neg h]
@[simp] theorem State.note_setSp (v : Word) (x : Config.CartAccess) : (s.setSp v).note x = (s.note x).setSp v := by
  by_cases h : s.OpenAt x.addr
  · rw [State.note, if_pos (show (s.setSp v).OpenAt x.addr from h), State.note, if_pos h]; rfl
  · rw [State.note, if_neg (show ¬ (s.setSp v).OpenAt x.addr from h), State.note, if_neg h]
@[simp] theorem State.note_setIme (v : Bool) (x : Config.CartAccess) : (s.setIme v).note x = (s.note x).setIme v := by
  by_cases h : s.OpenAt x.addr
  · rw [State.note, if_pos (show (s.setIme v).OpenAt x.addr from h), State.note, if_pos h]; rfl
  · rw [State.note, if_neg (show ¬ (s.setIme v).OpenAt x.addr from h), State.note, if_neg h]
@[simp] theorem State.note_setIe (v : Byte) (x : Config.CartAccess) : (s.setIe v).note x = (s.note x).setIe v := by
  by_cases h : s.OpenAt x.addr
  · rw [State.note, if_pos (show (s.setIe v).OpenAt x.addr from h), State.note, if_pos h]; rfl
  · rw [State.note, if_neg (show ¬ (s.setIe v).OpenAt x.addr from h), State.note, if_neg h]
@[simp] theorem State.note_setF (v : Byte) (x : Config.CartAccess) : (s.setF v).note x = (s.note x).setF v := by
  by_cases h : s.OpenAt x.addr
  · rw [State.note, if_pos (show (s.setF v).OpenAt x.addr from h), State.note, if_pos h]; rfl
  · rw [State.note, if_neg (show ¬ (s.setF v).OpenAt x.addr from h), State.note, if_neg h]
@[simp] theorem State.note_setStatus (v : Status) (x : Config.CartAccess) : (s.setStatus v).note x = (s.note x).setStatus v := by
  by_cases h : s.OpenAt x.addr
  · rw [State.note, if_pos (show (s.setStatus v).OpenAt x.addr from h), State.note, if_pos h]; rfl
  · rw [State.note, if_neg (show ¬ (s.setStatus v).OpenAt x.addr from h), State.note, if_neg h]
@[simp] theorem State.note_setT (v : Transient) (x : Config.CartAccess) : (s.setT v).note x = (s.note x).setT v := by
  by_cases h : s.OpenAt x.addr
  · rw [State.note, if_pos (show (s.setT v).OpenAt x.addr from h), State.note, if_pos h]; rfl
  · rw [State.note, if_neg (show ¬ (s.setT v).OpenAt x.addr from h), State.note, if_neg h]

theorem State.note_open {x : Config.CartAccess} (h : s.OpenAt x.addr) : s.note x = { s with cartLog := x :: s.cartLog } := if_pos h

theorem State.note_not_open {x : Config.CartAccess} (h : ¬ s.OpenAt x.addr) : s.note x = s := if_neg h

end Sys2Proof.Machine
end

