-- ==== Sys2Proof/Laws/Bus.lean ====
section
/-! SUPPORT. What a bus access can do: one lemma for a read, one for a write, and what a write leaves to be read. -/

namespace Sys2Proof.Machine

@[simp] theorem Res.bind_ok {α β : Type} (x : α) (s : State) (k : α → State → Res β) : (Res.ok x s).bind k = k x s := rfl

@[simp] theorem Res.bind_raise {α β : Type} (info : FaultInfo) (s : State) (k : α → State → Res β) :
    (Res.raise info s : Res α).bind k = .raise info s := rfl

@[simp] theorem Res.outcome_ok (s : State) : (Res.ok () s).outcome = .next s.discard := rfl

@[simp] theorem Res.outcome_raise (info : FaultInfo) (s : State) : (Res.raise info s).outcome = takeFault info s := rfl

@[simp] theorem takeFault_invalid (opcode : Byte) (pc : Word) (s : State) :
    takeFault (.invalidInstruction opcode pc) s =
      .fault (.invalidInstruction opcode pc (s.enterFaulted (.invalidInstruction opcode pc))) := rfl

@[simp] theorem takeFault_unsupported (addr : Word) (access : Access) (s : State) :
    takeFault (.unsupportedRegion addr access) s =
      .fault (.unsupportedRegion addr access (s.enterFaulted (.unsupportedRegion addr access))) := rfl

/-! ## The windows -/

theorem region_vram {addr : Word} (h : 0x8000 ≤ addr.toNat ∧ addr.toNat ≤ 0x9FFF) : region addr = .vram := by
  simp only [region]; split_ifs <;> first | rfl | omega

theorem region_oam {addr : Word} (h : 0xFE00 ≤ addr.toNat ∧ addr.toNat ≤ 0xFE9F) : region addr = .oam := by
  simp only [region]; split_ifs <;> first | rfl | omega

theorem region_io {addr : Word} (h : 0xFF00 ≤ addr.toNat ∧ addr.toNat ≤ 0xFF7F) : region addr = .io := by
  simp only [region]; split_ifs <;> first | rfl | omega

theorem region_echo {addr : Word} (h : 0xE000 ≤ addr.toNat ∧ addr.toNat ≤ 0xFDFF) : region addr = .echo := by
  simp only [region]; split_ifs <;> first | rfl | omega

theorem region_unusable {addr : Word} (h : 0xFEA0 ≤ addr.toNat ∧ addr.toNat ≤ 0xFEFF) : region addr = .unusable := by
  simp only [region]; split_ifs <;> first | rfl | omega

theorem region_ie {addr : Word} (h : addr.toNat = 0xFFFF) : region addr = .ie := by
  simp only [region]; split_ifs <;> first | rfl | omega

theorem region_provider {addr : Word} (h : ProviderAddr addr.toNat) :
    region addr = .rom ∨ region addr = .cram ∨ region addr = .wram ∨ region addr = .hram := by
  simp only [ProviderAddr] at h
  simp only [region]; split_ifs <;> first | omega | simp

/-- The windows a read faults on. -/
theorem readable_iff (addr : Word) : Readable addr ↔ region addr ≠ .vram ∧ region addr ≠ .oam ∧ region addr ≠ .io := by
  simp only [Readable, region]; split_ifs <;> simp <;> omega

/-- The windows a write does not fault on. -/
theorem writable_iff (addr : Word) :
    Writable addr ↔ region addr = .rom ∨ region addr = .cram ∨ region addr = .wram ∨ region addr = .hram ∨ region addr = .ie := by
  have := addr.isLt
  simp only [Writable, region]; split_ifs <;> simp <;> omega

/-- A writable address is a provider's, or IE's. -/
theorem writable_cases {addr : Word} (h : Writable addr) : ProviderAddr addr.toNat ∨ addr.toNat = 0xFFFF := by
  have := addr.isLt
  simp only [Writable, ProviderAddr] at *; omega

theorem writable_readable {addr : Word} (h : Writable addr) : Readable addr := by
  simp only [Writable, Readable] at *; omega

/-! ## Reads -/

theorem cartAddr_iff (addr : Word) : CartAddr addr ↔ region addr = .rom ∨ region addr = .cram := by
  simp only [CartAddr, region]; split_ifs <;> simp <;> omega

/-- Only the two cartridge windows can belong to a provider that is not the reference one. -/
theorem openAt_region {addr : Word} {s : State} (h : s.OpenAt addr) : region addr = .rom ∨ region addr = .cram :=
  (cartAddr_iff addr).mp h.2

theorem not_openAt {addr : Word} (s : State) (h1 : region addr ≠ .rom) (h2 : region addr ≠ .cram) : ¬ s.OpenAt addr :=
  fun h => (openAt_region h).elim h1 h2

/-- An open provider has its number. -/
theorem openAt_cart {addr : Word} {s : State} (h : s.OpenAt addr) : ∃ id, s.params.cart = .other id := by
  cases hc : s.params.cart with
  | reference => exact absurd hc h.1
  | other id => exact ⟨id, rfl⟩

/-- The provider of a cartridge window that is not open is the reference one. -/
theorem cart_reference {addr : Word} {s : State} (h : ¬ s.OpenAt addr) (hr : region addr = .rom ∨ region addr = .cram) :
    s.params.cart = .reference :=
  Decidable.byContradiction fun hc => h ⟨hc, (cartAddr_iff addr).mpr hr⟩

/-- A read gives the byte that `peek` shows, or raises UnsupportedRegion(addr, Read). A cartridge provider that is not the
reference one takes note of it; it changes nothing else. -/
theorem busRead_eq (addr : Word) (s : State) :
    busRead addr s = match s.peek addr with
      | some b => .ok b (s.note (.read addr))
      | none => .raise (.unsupportedRegion addr .read) s := by
  unfold State.peek busRead
  cases hr : region addr <;> first | rfl | (rw [State.note_not_open s (x := .read addr) (not_openAt s (by rw [Config.CartAccess.addr, hr]; decide) (by rw [Config.CartAccess.addr, hr]; decide))])

theorem busRead_some {addr : Word} {s : State} {b : Byte} (h : s.peek addr = some b) :
    busRead addr s = .ok b (s.note (.read addr)) := by
  rw [busRead_eq, h]

/-- In an open provider's window a read gives the byte that provider answers. -/
theorem peek_open {addr : Word} {s : State} {id : Nat} (hc : s.params.cart = .other id) (h : CartAddr addr) :
    s.peek addr = some (Config.cartByte id s.cartLog addr) := by
  rw [cartAddr_iff] at h
  rcases h with h | h <;> simp [State.peek, busRead, h, State.cartRead, hc]

/-- At every other address the record of accesses to the cartridge has no part in what is read. -/
theorem peek_not_open {s s' : State} {addr : Word} (h : ¬ s.OpenAt addr) (hm : s'.mem = s.mem) (hi : s'.ie = s.ie)
    (hp : s'.params = s.params) : s'.peek addr = s.peek addr := by
  unfold State.peek busRead State.cartRead; rw [hm, hi, hp]
  cases hr : region addr <;> first | rfl | simp only [cart_reference h (by simp [hr])]

theorem busRead_none {addr : Word} {s : State} (h : s.peek addr = none) :
    busRead addr s = .raise (.unsupportedRegion addr .read) s := by
  rw [busRead_eq, h]

theorem peek_eq_none_iff (addr : Word) (s : State) : s.peek addr = none ↔ ¬ Readable addr := by
  rw [readable_iff]; unfold State.peek busRead; split <;> split at * <;> simp_all

/-- What is read depends on the memory list, IE and the cartridge provider only. -/
theorem peek_congr {s s' : State} (hm : s'.mem = s.mem) (hi : s'.ie = s.ie) (hp : s'.params = s.params)
    (hl : s'.cartLog = s.cartLog) (addr : Word) : s'.peek addr = s.peek addr := by
  unfold State.peek busRead State.cartRead; rw [hm, hi, hp, hl]; cases region addr <;> rfl

/-- A note leaves what is read outside the open provider's windows. -/
theorem peek_note {s : State} {addr : Word} (h : ¬ s.OpenAt addr) (x : Config.CartAccess) : (s.note x).peek addr = s.peek addr :=
  peek_not_open h (by simp) (by simp) (by simp)

/-- A note to the provider does not move what is open. -/
theorem openAt_note (s : State) (x : Config.CartAccess) (addr : Word) : (s.note x).OpenAt addr ↔ s.OpenAt addr := by
  rw [State.OpenAt, State.note_params]

/-- Whether the bus reads at an address does not depend on the state. -/
theorem peek_isSome_iff (addr : Word) (s : State) : (∃ b, s.peek addr = some b) ↔ Readable addr := by
  rw [← Option.isSome_iff_exists, ← Option.ne_none_iff_isSome, ne_eq, peek_eq_none_iff, not_not]

@[simp] theorem peek_tick (n : Nat) (s : State) (addr : Word) : (s.tick n).peek addr = s.peek addr :=
  peek_congr (by rfl) (by rfl) (by rfl) (by rfl) addr
@[simp] theorem peek_setPc (v : Word) (s : State) (addr : Word) : (s.setPc v).peek addr = s.peek addr :=
  peek_congr (by rfl) (by rfl) (by rfl) (by rfl) addr
@[simp] theorem peek_setSp (v : Word) (s : State) (addr : Word) : (s.setSp v).peek addr = s.peek addr :=
  peek_congr (by rfl) (by rfl) (by rfl) (by rfl) addr
@[simp] theorem peek_setIme (v : Bool) (s : State) (addr : Word) : (s.setIme v).peek addr = s.peek addr :=
  peek_congr (by rfl) (by rfl) (by rfl) (by rfl) addr
@[simp] theorem peek_setF (v : Byte) (s : State) (addr : Word) : (s.setF v).peek addr = s.peek addr :=
  peek_congr (by rfl) (by rfl) (by rfl) (by rfl) addr
@[simp] theorem peek_setT (v : Transient) (s : State) (addr : Word) : (s.setT v).peek addr = s.peek addr :=
  peek_congr (by rfl) (by rfl) (by rfl) (by rfl) addr
@[simp] theorem peek_discard (s : State) (addr : Word) : s.discard.peek addr = s.peek addr :=
  peek_congr (by rfl) (by rfl) (by rfl) (by rfl) addr
@[simp] theorem peek_setFetched (v : Word) (s : State) (addr : Word) : (s.setFetched v).peek addr = s.peek addr :=
  peek_congr (by rfl) (by rfl) (by rfl) (by rfl) addr
@[simp] theorem peek_setMemDest (a : Word) (s : State) (addr : Word) : (s.setMemDest a).peek addr = s.peek addr :=
  peek_congr (by rfl) (by rfl) (by rfl) (by rfl) addr
@[simp] theorem peek_setCurOpcode (v : Byte) (s : State) (addr : Word) : (s.setCurOpcode v).peek addr = s.peek addr :=
  peek_congr (by rfl) (by rfl) (by rfl) (by rfl) addr
@[simp] theorem peek_beginResolve (d : Desc) (s : State) (addr : Word) : (s.beginResolve d).peek addr = s.peek addr :=
  peek_congr (by rfl) (by rfl) (by rfl) (by rfl) addr
@[simp] theorem peek_write (r : Reg) (v : Word) (s : State) (addr : Word) : (s.write r v).peek addr = s.peek addr :=
  peek_congr (by simp) (by simp) (by simp) (by simp) addr

/-! ## Writes -/

/-- A write to a writable address is `place`. -/
theorem busWrite_ok {addr : Word} (h : Writable addr) (b : Byte) (s : State) : busWrite addr b s = .ok () (s.place addr b) := by
  rcases (writable_iff addr).mp h with h | h | h | h | h <;> simp [State.place, busWrite, h]

/-- A write to any other address raises UnsupportedRegion(addr, Write) and changes nothing. -/
theorem busWrite_raise {addr : Word} (h : ¬ Writable addr) (b : Byte) (s : State) :
    busWrite addr b s = .raise (.unsupportedRegion addr (.write b)) s := by
  unfold busWrite
  rw [writable_iff] at h
  split <;> simp_all

theorem place_eq (addr : Word) (b : Byte) (s : State) :
    s.place addr b =
      if Writable addr then
        if addr.toNat = 0xFFFF then s.setIe b else if s.OpenAt addr then s.note (.write addr b) else s.store addr b
      else s := by
  by_cases h : Writable addr
  · rw [if_pos h]
    rcases writable_cases h with hp | hi
    · have hn : addr.toNat ≠ 0xFFFF := by simp only [ProviderAddr] at hp; omega
      rw [if_neg hn]
      by_cases ho : s.OpenAt addr
      · obtain ⟨id, hc⟩ := openAt_cart ho
        rw [if_pos ho]
        rcases openAt_region ho with hr | hr <;> simp only [State.place, busWrite, hr, State.cartWrite, hc]
      · rw [if_neg ho]
        rcases region_provider hp with hr | hr | hr | hr <;> simp only [State.place, busWrite, hr]
        all_goals simp only [State.cartWrite, cart_reference ho (by simp [hr])]
    · simp [State.place, busWrite, region_ie hi, hi]
  · rw [if_neg h]; simp [State.place, busWrite_raise h]

/-- A write in an open provider's window is noted, and changes nothing else. -/
theorem place_open {addr : Word} {s : State} (h : s.OpenAt addr) (b : Byte) : s.place addr b = s.note (.write addr b) := by
  have hr := h.2
  have hw : Writable addr := by simp only [Writable, CartAddr] at *; omega
  have hn : addr.toNat ≠ 0xFFFF := by simp only [CartAddr] at hr; omega
  rw [place_eq, if_pos hw, if_neg hn, if_pos h]

/-- `place` changes the memory list, IE, or the record of accesses to the cartridge only. -/
theorem place_fields (addr : Word) (b : Byte) (s : State) :
    s.place addr b = { s with mem := (s.place addr b).mem, ie := (s.place addr b).ie, cartLog := (s.place addr b).cartLog } := by
  rw [place_eq]; split_ifs <;> first | rfl | next h => rw [State.note_open s (x := .write addr b) h]

@[simp] theorem place_a (addr : Word) (b : Byte) (s : State) : (s.place addr b).a = s.a := by rw [place_fields]
@[simp] theorem place_f (addr : Word) (b : Byte) (s : State) : (s.place addr b).f = s.f := by rw [place_fields]
@[simp] theorem place_b (addr : Word) (b : Byte) (s : State) : (s.place addr b).b = s.b := by rw [place_fields]
@[simp] theorem place_c (addr : Word) (b : Byte) (s : State) : (s.place addr b).c = s.c := by rw [place_fields]
@[simp] theorem place_d (addr : Word) (b : Byte) (s : State) : (s.place addr b).d = s.d := by rw [place_fields]
@[simp] theorem place_e (addr : Word) (b : Byte) (s : State) : (s.place addr b).e = s.e := by rw [place_fields]
@[simp] theorem place_h (addr : Word) (b : Byte) (s : State) : (s.place addr b).h = s.h := by rw [place_fields]
@[simp] theorem place_l (addr : Word) (b : Byte) (s : State) : (s.place addr b).l = s.l := by rw [place_fields]
@[simp] theorem place_pc (addr : Word) (b : Byte) (s : State) : (s.place addr b).pc = s.pc := by rw [place_fields]
@[simp] theorem place_sp (addr : Word) (b : Byte) (s : State) : (s.place addr b).sp = s.sp := by rw [place_fields]
@[simp] theorem place_ime (addr : Word) (b : Byte) (s : State) : (s.place addr b).ime = s.ime := by rw [place_fields]
@[simp] theorem place_halted (addr : Word) (b : Byte) (s : State) : (s.place addr b).halted = s.halted := by rw [place_fields]
@[simp] theorem place_ticks (addr : Word) (b : Byte) (s : State) : (s.place addr b).ticks = s.ticks := by rw [place_fields]
@[simp] theorem place_status (addr : Word) (b : Byte) (s : State) : (s.place addr b).status = s.status := by rw [place_fields]
@[simp] theorem place_t (addr : Word) (b : Byte) (s : State) : (s.place addr b).t = s.t := by rw [place_fields]
@[simp] theorem place_params (addr : Word) (b : Byte) (s : State) : (s.place addr b).params = s.params := by rw [place_fields]

@[simp] theorem place_read (addr : Word) (b : Byte) (s : State) (r : Reg) : (s.place addr b).read r = s.read r := by
  cases r <;> simp [State.read]

/-- Outside an open provider's windows the record of accesses does not change. -/
theorem place_cartLog {addr : Word} {b : Byte} {s : State} (h : ¬ s.OpenAt addr) : (s.place addr b).cartLog = s.cartLog := by
  rw [place_eq, if_neg h]; split_ifs <;> rfl

theorem openAt_place (s : State) (addr : Word) (b : Byte) (x : Word) : (s.place addr b).OpenAt x ↔ s.OpenAt x := by
  rw [State.OpenAt, place_params]

/-- After a write outside an open provider's windows, the bus reads the byte written at its address, and at every other
address what it read before (20_memory.md R60, R68). -/
theorem peek_place {addr : Word} (h : Writable addr) {s : State} (ho : ¬ s.OpenAt addr) (b : Byte) (x : Word) :
    (s.place addr b).peek x = if x = addr then some b else s.peek x := by
  rw [place_eq, if_pos h, if_neg ho]
  by_cases hx : x = addr
  · subst hx
    rw [if_pos rfl]
    rcases writable_cases h with hp | hi
    · have : x.toNat ≠ 0xFFFF := by simp only [ProviderAddr] at hp; omega
      rw [if_neg this]
      rcases region_provider hp with hr | hr | hr | hr <;> simp only [State.peek, busRead, hr, State.cartRead, State.store_params, State.store_mem, Memory.get_set_same]
      all_goals simp only [cart_reference ho (by simp [hr])]
    · simp [hi, State.peek, busRead, region_ie hi]
  · have hn : x.toNat ≠ addr.toNat := fun hc => hx (BitVec.eq_of_toNat_eq hc)
    rw [if_neg hx]
    split
    · next hi =>
      have hr : region x ≠ .ie := by
        intro hc; have := x.isLt; have : x.toNat = 0xFFFF := by
          simp only [region] at hc; split_ifs at hc; omega
        omega
      unfold State.peek busRead State.cartRead; cases hreg : region x <;> simp_all
    · unfold State.peek busRead State.cartRead; cases hreg : region x <;> simp [Memory.get_set_ne _ _ hn]

/-- A byte written reads back, but for the business of an open provider. -/
theorem holds_place {addr : Word} (h : Writable addr) (b : Byte) (s : State) : (s.place addr b).Holds addr b := by
  intro ho
  rw [peek_place h (by rwa [openAt_place] at ho), if_pos rfl]

/-- A later write elsewhere leaves it so. -/
theorem State.Holds.place {s : State} {addr a : Word} {b v : Byte} (hh : s.Holds addr b) (h : Writable a) (hn : addr ≠ a) :
    (s.place a v).Holds addr b := by
  intro ho
  rw [openAt_place] at ho
  by_cases ha : s.OpenAt a
  · rw [place_open ha, peek_note ho]; exact hh ho
  · rw [peek_place h ha, if_neg hn]; exact hh ho

/-- With a cartridge that ignores ROM writes, a store to the ROM window changes nothing the bus reads. -/
theorem peek_place_ignored {id : Nat} (hi : IgnoresRomWrites id) {s : State} (hc : s.params.cart = .other id) {addr : Word}
    (h : addr.toNat ≤ 0x7FFF) (b : Byte) (x : Word) : (s.place addr b).peek x = s.peek x := by
  have ho : s.OpenAt addr := ⟨by rw [hc]; exact Config.Cart.noConfusion, .inl h⟩
  rw [place_open ho]
  by_cases hx : s.OpenAt x
  · rw [peek_open (by rw [State.note_params, hc]) hx.2, peek_open hc hx.2, State.note_cartLog, write_addr, if_pos ho, hi _ _ _ _ h]
  · exact peek_note hx _

/-- A cartridge with no RAM reads as its fixed byte there, whatever was written. -/
theorem peek_no_ram {id : Nat} {v : Byte} (hv : HasNoRam id v) {s : State} (hc : s.params.cart = .other id) {addr : Word}
    (h1 : 0xA000 ≤ addr.toNat) (h2 : addr.toNat ≤ 0xBFFF) : s.peek addr = some v := by
  rw [peek_open hc (.inr ⟨h1, h2⟩), hv _ _ h1 h2]

/-- `Holds` is about what is read. -/
theorem State.Holds.congr {s s' : State} {addr : Word} {b : Byte} (hh : s.Holds addr b) (hp : s'.params = s.params)
    (hk : s'.peek addr = s.peek addr) : s'.Holds addr b := by
  intro ho; rw [hk]; exact hh (by rwa [State.OpenAt, hp] at ho)

end Sys2Proof.Machine
end

