-- ==== Sys2Proof/Laws/PerInstr.lean ====
section
/-! SUPPORT. Statements about every instruction as syntax, one lemma for each constructor. -/

namespace Sys2Proof.Laws

/-! ## The length of an encoding is the one its addressing mode fixes (30_encoding.md R75) -/

def EncodeLength.Statement (i : Instr) : Prop := (encode i).length = i.desc.mode.format.length

theorem EncodeLength.nop : EncodeLength.Statement (.nop) := rfl
theorem EncodeLength.ldBCD16 (d16 : Word) : EncodeLength.Statement (.ldBCD16 d16) := rfl
theorem EncodeLength.ldIndBCA : EncodeLength.Statement (.ldIndBCA) := rfl
theorem EncodeLength.incBC : EncodeLength.Statement (.incBC) := rfl
theorem EncodeLength.incB : EncodeLength.Statement (.incB) := rfl
theorem EncodeLength.ldBD8 (d8 : Byte) : EncodeLength.Statement (.ldBD8 d8) := rfl
theorem EncodeLength.ldIndA16SP (a16 : Word) : EncodeLength.Statement (.ldIndA16SP a16) := rfl
theorem EncodeLength.ldAIndBC : EncodeLength.Statement (.ldAIndBC) := rfl
theorem EncodeLength.incC : EncodeLength.Statement (.incC) := rfl
theorem EncodeLength.ldCD8 (d8 : Byte) : EncodeLength.Statement (.ldCD8 d8) := rfl
theorem EncodeLength.ldDED16 (d16 : Word) : EncodeLength.Statement (.ldDED16 d16) := rfl
theorem EncodeLength.ldIndDEA : EncodeLength.Statement (.ldIndDEA) := rfl
theorem EncodeLength.incDE : EncodeLength.Statement (.incDE) := rfl
theorem EncodeLength.incD : EncodeLength.Statement (.incD) := rfl
theorem EncodeLength.ldDD8 (d8 : Byte) : EncodeLength.Statement (.ldDD8 d8) := rfl
theorem EncodeLength.jrE8 (e8 : Byte) : EncodeLength.Statement (.jrE8 e8) := rfl
theorem EncodeLength.ldAIndDE : EncodeLength.Statement (.ldAIndDE) := rfl
theorem EncodeLength.incE : EncodeLength.Statement (.incE) := rfl
theorem EncodeLength.ldED8 (d8 : Byte) : EncodeLength.Statement (.ldED8 d8) := rfl
theorem EncodeLength.jrNZE8 (e8 : Byte) : EncodeLength.Statement (.jrNZE8 e8) := rfl
theorem EncodeLength.ldHLD16 (d16 : Word) : EncodeLength.Statement (.ldHLD16 d16) := rfl
theorem EncodeLength.ldIndHLIncA : EncodeLength.Statement (.ldIndHLIncA) := rfl
theorem EncodeLength.incHL : EncodeLength.Statement (.incHL) := rfl
theorem EncodeLength.incH : EncodeLength.Statement (.incH) := rfl
theorem EncodeLength.ldHD8 (d8 : Byte) : EncodeLength.Statement (.ldHD8 d8) := rfl
theorem EncodeLength.jrZE8 (e8 : Byte) : EncodeLength.Statement (.jrZE8 e8) := rfl
theorem EncodeLength.ldAIndHLInc : EncodeLength.Statement (.ldAIndHLInc) := rfl
theorem EncodeLength.incL : EncodeLength.Statement (.incL) := rfl
theorem EncodeLength.ldLD8 (d8 : Byte) : EncodeLength.Statement (.ldLD8 d8) := rfl
theorem EncodeLength.jrNCE8 (e8 : Byte) : EncodeLength.Statement (.jrNCE8 e8) := rfl
theorem EncodeLength.ldSPD16 (d16 : Word) : EncodeLength.Statement (.ldSPD16 d16) := rfl
theorem EncodeLength.ldIndHLDecA : EncodeLength.Statement (.ldIndHLDecA) := rfl
theorem EncodeLength.incSP : EncodeLength.Statement (.incSP) := rfl
theorem EncodeLength.incIndHL : EncodeLength.Statement (.incIndHL) := rfl
theorem EncodeLength.ldIndHLD8 (d8 : Byte) : EncodeLength.Statement (.ldIndHLD8 d8) := rfl
theorem EncodeLength.jrCE8 (e8 : Byte) : EncodeLength.Statement (.jrCE8 e8) := rfl
theorem EncodeLength.ldAIndHLDec : EncodeLength.Statement (.ldAIndHLDec) := rfl
theorem EncodeLength.incA : EncodeLength.Statement (.incA) := rfl
theorem EncodeLength.ldAD8 (d8 : Byte) : EncodeLength.Statement (.ldAD8 d8) := rfl
theorem EncodeLength.ldBB : EncodeLength.Statement (.ldBB) := rfl
theorem EncodeLength.ldBC : EncodeLength.Statement (.ldBC) := rfl
theorem EncodeLength.ldBD : EncodeLength.Statement (.ldBD) := rfl
theorem EncodeLength.ldBE : EncodeLength.Statement (.ldBE) := rfl
theorem EncodeLength.ldBH : EncodeLength.Statement (.ldBH) := rfl
theorem EncodeLength.ldBL : EncodeLength.Statement (.ldBL) := rfl
theorem EncodeLength.ldBIndHL : EncodeLength.Statement (.ldBIndHL) := rfl
theorem EncodeLength.ldBA : EncodeLength.Statement (.ldBA) := rfl
theorem EncodeLength.ldCB : EncodeLength.Statement (.ldCB) := rfl
theorem EncodeLength.ldCC : EncodeLength.Statement (.ldCC) := rfl
theorem EncodeLength.ldCD : EncodeLength.Statement (.ldCD) := rfl
theorem EncodeLength.ldCE : EncodeLength.Statement (.ldCE) := rfl
theorem EncodeLength.ldCH : EncodeLength.Statement (.ldCH) := rfl
theorem EncodeLength.ldCL : EncodeLength.Statement (.ldCL) := rfl
theorem EncodeLength.ldCIndHL : EncodeLength.Statement (.ldCIndHL) := rfl
theorem EncodeLength.ldCA : EncodeLength.Statement (.ldCA) := rfl
theorem EncodeLength.ldDB : EncodeLength.Statement (.ldDB) := rfl
theorem EncodeLength.ldDC : EncodeLength.Statement (.ldDC) := rfl
theorem EncodeLength.ldDD : EncodeLength.Statement (.ldDD) := rfl
theorem EncodeLength.ldDE : EncodeLength.Statement (.ldDE) := rfl
theorem EncodeLength.ldDH : EncodeLength.Statement (.ldDH) := rfl
theorem EncodeLength.ldDL : EncodeLength.Statement (.ldDL) := rfl
theorem EncodeLength.ldDIndHL : EncodeLength.Statement (.ldDIndHL) := rfl
theorem EncodeLength.ldDA : EncodeLength.Statement (.ldDA) := rfl
theorem EncodeLength.ldEB : EncodeLength.Statement (.ldEB) := rfl
theorem EncodeLength.ldEC : EncodeLength.Statement (.ldEC) := rfl
theorem EncodeLength.ldED : EncodeLength.Statement (.ldED) := rfl
theorem EncodeLength.ldEE : EncodeLength.Statement (.ldEE) := rfl
theorem EncodeLength.ldEH : EncodeLength.Statement (.ldEH) := rfl
theorem EncodeLength.ldEL : EncodeLength.Statement (.ldEL) := rfl
theorem EncodeLength.ldEIndHL : EncodeLength.Statement (.ldEIndHL) := rfl
theorem EncodeLength.ldEA : EncodeLength.Statement (.ldEA) := rfl
theorem EncodeLength.ldHB : EncodeLength.Statement (.ldHB) := rfl
theorem EncodeLength.ldHC : EncodeLength.Statement (.ldHC) := rfl
theorem EncodeLength.ldHD : EncodeLength.Statement (.ldHD) := rfl
theorem EncodeLength.ldHE : EncodeLength.Statement (.ldHE) := rfl
theorem EncodeLength.ldHH : EncodeLength.Statement (.ldHH) := rfl
theorem EncodeLength.ldHL : EncodeLength.Statement (.ldHL) := rfl
theorem EncodeLength.ldHIndHL : EncodeLength.Statement (.ldHIndHL) := rfl
theorem EncodeLength.ldHA : EncodeLength.Statement (.ldHA) := rfl
theorem EncodeLength.ldLB : EncodeLength.Statement (.ldLB) := rfl
theorem EncodeLength.ldLC : EncodeLength.Statement (.ldLC) := rfl
theorem EncodeLength.ldLD : EncodeLength.Statement (.ldLD) := rfl
theorem EncodeLength.ldLE : EncodeLength.Statement (.ldLE) := rfl
theorem EncodeLength.ldLH : EncodeLength.Statement (.ldLH) := rfl
theorem EncodeLength.ldLL : EncodeLength.Statement (.ldLL) := rfl
theorem EncodeLength.ldLIndHL : EncodeLength.Statement (.ldLIndHL) := rfl
theorem EncodeLength.ldLA : EncodeLength.Statement (.ldLA) := rfl
theorem EncodeLength.ldIndHLB : EncodeLength.Statement (.ldIndHLB) := rfl
theorem EncodeLength.ldIndHLC : EncodeLength.Statement (.ldIndHLC) := rfl
theorem EncodeLength.ldIndHLD : EncodeLength.Statement (.ldIndHLD) := rfl
theorem EncodeLength.ldIndHLE : EncodeLength.Statement (.ldIndHLE) := rfl
theorem EncodeLength.ldIndHLH : EncodeLength.Statement (.ldIndHLH) := rfl
theorem EncodeLength.ldIndHLL : EncodeLength.Statement (.ldIndHLL) := rfl
theorem EncodeLength.ldIndHLA : EncodeLength.Statement (.ldIndHLA) := rfl
theorem EncodeLength.ldAB : EncodeLength.Statement (.ldAB) := rfl
theorem EncodeLength.ldAC : EncodeLength.Statement (.ldAC) := rfl
theorem EncodeLength.ldAD : EncodeLength.Statement (.ldAD) := rfl
theorem EncodeLength.ldAE : EncodeLength.Statement (.ldAE) := rfl
theorem EncodeLength.ldAH : EncodeLength.Statement (.ldAH) := rfl
theorem EncodeLength.ldAL : EncodeLength.Statement (.ldAL) := rfl
theorem EncodeLength.ldAIndHL : EncodeLength.Statement (.ldAIndHL) := rfl
theorem EncodeLength.ldAA : EncodeLength.Statement (.ldAA) := rfl
theorem EncodeLength.xorB : EncodeLength.Statement (.xorB) := rfl
theorem EncodeLength.xorC : EncodeLength.Statement (.xorC) := rfl
theorem EncodeLength.xorD : EncodeLength.Statement (.xorD) := rfl
theorem EncodeLength.xorE : EncodeLength.Statement (.xorE) := rfl
theorem EncodeLength.xorH : EncodeLength.Statement (.xorH) := rfl
theorem EncodeLength.xorL : EncodeLength.Statement (.xorL) := rfl
theorem EncodeLength.xorIndHL : EncodeLength.Statement (.xorIndHL) := rfl
theorem EncodeLength.xorA : EncodeLength.Statement (.xorA) := rfl
theorem EncodeLength.retNZ : EncodeLength.Statement (.retNZ) := rfl
theorem EncodeLength.popBC : EncodeLength.Statement (.popBC) := rfl
theorem EncodeLength.jpNZA16 (a16 : Word) : EncodeLength.Statement (.jpNZA16 a16) := rfl
theorem EncodeLength.jpA16 (a16 : Word) : EncodeLength.Statement (.jpA16 a16) := rfl
theorem EncodeLength.callNZA16 (a16 : Word) : EncodeLength.Statement (.callNZA16 a16) := rfl
theorem EncodeLength.pushBC : EncodeLength.Statement (.pushBC) := rfl
theorem EncodeLength.rst00 : EncodeLength.Statement (.rst00) := rfl
theorem EncodeLength.retZ : EncodeLength.Statement (.retZ) := rfl
theorem EncodeLength.ret : EncodeLength.Statement (.ret) := rfl
theorem EncodeLength.jpZA16 (a16 : Word) : EncodeLength.Statement (.jpZA16 a16) := rfl
theorem EncodeLength.callZA16 (a16 : Word) : EncodeLength.Statement (.callZA16 a16) := rfl
theorem EncodeLength.callA16 (a16 : Word) : EncodeLength.Statement (.callA16 a16) := rfl
theorem EncodeLength.rst08 : EncodeLength.Statement (.rst08) := rfl
theorem EncodeLength.retNC : EncodeLength.Statement (.retNC) := rfl
theorem EncodeLength.popDE : EncodeLength.Statement (.popDE) := rfl
theorem EncodeLength.jpNCA16 (a16 : Word) : EncodeLength.Statement (.jpNCA16 a16) := rfl
theorem EncodeLength.callNCA16 (a16 : Word) : EncodeLength.Statement (.callNCA16 a16) := rfl
theorem EncodeLength.pushDE : EncodeLength.Statement (.pushDE) := rfl
theorem EncodeLength.rst10 : EncodeLength.Statement (.rst10) := rfl
theorem EncodeLength.retC : EncodeLength.Statement (.retC) := rfl
theorem EncodeLength.reti : EncodeLength.Statement (.reti) := rfl
theorem EncodeLength.jpCA16 (a16 : Word) : EncodeLength.Statement (.jpCA16 a16) := rfl
theorem EncodeLength.callCA16 (a16 : Word) : EncodeLength.Statement (.callCA16 a16) := rfl
theorem EncodeLength.rst18 : EncodeLength.Statement (.rst18) := rfl
theorem EncodeLength.ldhIndA8A (a8 : Byte) : EncodeLength.Statement (.ldhIndA8A a8) := rfl
theorem EncodeLength.popHL : EncodeLength.Statement (.popHL) := rfl
theorem EncodeLength.ldIndCA : EncodeLength.Statement (.ldIndCA) := rfl
theorem EncodeLength.pushHL : EncodeLength.Statement (.pushHL) := rfl
theorem EncodeLength.rst20 : EncodeLength.Statement (.rst20) := rfl
theorem EncodeLength.jpHL : EncodeLength.Statement (.jpHL) := rfl
theorem EncodeLength.ldIndA16A (a16 : Word) : EncodeLength.Statement (.ldIndA16A a16) := rfl
theorem EncodeLength.xorD8 (d8 : Byte) : EncodeLength.Statement (.xorD8 d8) := rfl
theorem EncodeLength.rst28 : EncodeLength.Statement (.rst28) := rfl
theorem EncodeLength.ldhAIndA8 (a8 : Byte) : EncodeLength.Statement (.ldhAIndA8 a8) := rfl
theorem EncodeLength.popAF : EncodeLength.Statement (.popAF) := rfl
theorem EncodeLength.ldAIndC : EncodeLength.Statement (.ldAIndC) := rfl
theorem EncodeLength.di : EncodeLength.Statement (.di) := rfl
theorem EncodeLength.pushAF : EncodeLength.Statement (.pushAF) := rfl
theorem EncodeLength.rst30 : EncodeLength.Statement (.rst30) := rfl
theorem EncodeLength.ldHLSPe8 (e8 : Byte) : EncodeLength.Statement (.ldHLSPe8 e8) := rfl
theorem EncodeLength.ldSPHL : EncodeLength.Statement (.ldSPHL) := rfl
theorem EncodeLength.ldAIndA16 (a16 : Word) : EncodeLength.Statement (.ldAIndA16 a16) := rfl
theorem EncodeLength.rst38 : EncodeLength.Statement (.rst38) := rfl
theorem EncodeLength.invalid (opcode : Byte) : EncodeLength.Statement (.invalid opcode) := rfl

/-! ## The table's descriptor for the opcode is the instruction's (30_encoding.md R77, R78) -/

def DescOfOpcode.Statement (i : Instr) : Prop := i.wf = true → descOf [] i.opcode = i.desc

def isUnmapped : Row → Bool
  | .unmapped => true
  | .op0 _ | .op1 _ | .op2 _ => false

theorem isUnmapped_lookup : ∀ opcode ∈ unmappedOpcodes, isUnmapped (lookup opcode) = true := by decide

theorem lookup_unmapped (opcode : Byte) (h : unmappedOpcodes.contains opcode = true) : lookup opcode = .unmapped := by
  have h := isUnmapped_lookup opcode (by simpa using h)
  cases hr : lookup opcode <;> simp_all [isUnmapped]

theorem DescOfOpcode.nop : DescOfOpcode.Statement (.nop) := fun _ => rfl
theorem DescOfOpcode.ldBCD16 (d16 : Word) : DescOfOpcode.Statement (.ldBCD16 d16) := fun _ => by dsimp only [Instr.opcode, Instr.desc]; rfl
theorem DescOfOpcode.ldIndBCA : DescOfOpcode.Statement (.ldIndBCA) := fun _ => rfl
theorem DescOfOpcode.incBC : DescOfOpcode.Statement (.incBC) := fun _ => rfl
theorem DescOfOpcode.incB : DescOfOpcode.Statement (.incB) := fun _ => rfl
theorem DescOfOpcode.ldBD8 (d8 : Byte) : DescOfOpcode.Statement (.ldBD8 d8) := fun _ => by dsimp only [Instr.opcode, Instr.desc]; rfl
theorem DescOfOpcode.ldIndA16SP (a16 : Word) : DescOfOpcode.Statement (.ldIndA16SP a16) := fun _ => by dsimp only [Instr.opcode, Instr.desc]; rfl
theorem DescOfOpcode.ldAIndBC : DescOfOpcode.Statement (.ldAIndBC) := fun _ => rfl
theorem DescOfOpcode.incC : DescOfOpcode.Statement (.incC) := fun _ => rfl
theorem DescOfOpcode.ldCD8 (d8 : Byte) : DescOfOpcode.Statement (.ldCD8 d8) := fun _ => by dsimp only [Instr.opcode, Instr.desc]; rfl
theorem DescOfOpcode.ldDED16 (d16 : Word) : DescOfOpcode.Statement (.ldDED16 d16) := fun _ => by dsimp only [Instr.opcode, Instr.desc]; rfl
theorem DescOfOpcode.ldIndDEA : DescOfOpcode.Statement (.ldIndDEA) := fun _ => rfl
theorem DescOfOpcode.incDE : DescOfOpcode.Statement (.incDE) := fun _ => rfl
theorem DescOfOpcode.incD : DescOfOpcode.Statement (.incD) := fun _ => rfl
theorem DescOfOpcode.ldDD8 (d8 : Byte) : DescOfOpcode.Statement (.ldDD8 d8) := fun _ => by dsimp only [Instr.opcode, Instr.desc]; rfl
theorem DescOfOpcode.jrE8 (e8 : Byte) : DescOfOpcode.Statement (.jrE8 e8) := fun _ => by dsimp only [Instr.opcode, Instr.desc]; rfl
theorem DescOfOpcode.ldAIndDE : DescOfOpcode.Statement (.ldAIndDE) := fun _ => rfl
theorem DescOfOpcode.incE : DescOfOpcode.Statement (.incE) := fun _ => rfl
theorem DescOfOpcode.ldED8 (d8 : Byte) : DescOfOpcode.Statement (.ldED8 d8) := fun _ => by dsimp only [Instr.opcode, Instr.desc]; rfl
theorem DescOfOpcode.jrNZE8 (e8 : Byte) : DescOfOpcode.Statement (.jrNZE8 e8) := fun _ => by dsimp only [Instr.opcode, Instr.desc]; rfl
theorem DescOfOpcode.ldHLD16 (d16 : Word) : DescOfOpcode.Statement (.ldHLD16 d16) := fun _ => by dsimp only [Instr.opcode, Instr.desc]; rfl
theorem DescOfOpcode.ldIndHLIncA : DescOfOpcode.Statement (.ldIndHLIncA) := fun _ => rfl
theorem DescOfOpcode.incHL : DescOfOpcode.Statement (.incHL) := fun _ => rfl
theorem DescOfOpcode.incH : DescOfOpcode.Statement (.incH) := fun _ => rfl
theorem DescOfOpcode.ldHD8 (d8 : Byte) : DescOfOpcode.Statement (.ldHD8 d8) := fun _ => by dsimp only [Instr.opcode, Instr.desc]; rfl
theorem DescOfOpcode.jrZE8 (e8 : Byte) : DescOfOpcode.Statement (.jrZE8 e8) := fun _ => by dsimp only [Instr.opcode, Instr.desc]; rfl
theorem DescOfOpcode.ldAIndHLInc : DescOfOpcode.Statement (.ldAIndHLInc) := fun _ => rfl
theorem DescOfOpcode.incL : DescOfOpcode.Statement (.incL) := fun _ => rfl
theorem DescOfOpcode.ldLD8 (d8 : Byte) : DescOfOpcode.Statement (.ldLD8 d8) := fun _ => by dsimp only [Instr.opcode, Instr.desc]; rfl
theorem DescOfOpcode.jrNCE8 (e8 : Byte) : DescOfOpcode.Statement (.jrNCE8 e8) := fun _ => by dsimp only [Instr.opcode, Instr.desc]; rfl
theorem DescOfOpcode.ldSPD16 (d16 : Word) : DescOfOpcode.Statement (.ldSPD16 d16) := fun _ => by dsimp only [Instr.opcode, Instr.desc]; rfl
theorem DescOfOpcode.ldIndHLDecA : DescOfOpcode.Statement (.ldIndHLDecA) := fun _ => rfl
theorem DescOfOpcode.incSP : DescOfOpcode.Statement (.incSP) := fun _ => rfl
theorem DescOfOpcode.incIndHL : DescOfOpcode.Statement (.incIndHL) := fun _ => rfl
theorem DescOfOpcode.ldIndHLD8 (d8 : Byte) : DescOfOpcode.Statement (.ldIndHLD8 d8) := fun _ => by dsimp only [Instr.opcode, Instr.desc]; rfl
theorem DescOfOpcode.jrCE8 (e8 : Byte) : DescOfOpcode.Statement (.jrCE8 e8) := fun _ => by dsimp only [Instr.opcode, Instr.desc]; rfl
theorem DescOfOpcode.ldAIndHLDec : DescOfOpcode.Statement (.ldAIndHLDec) := fun _ => rfl
theorem DescOfOpcode.incA : DescOfOpcode.Statement (.incA) := fun _ => rfl
theorem DescOfOpcode.ldAD8 (d8 : Byte) : DescOfOpcode.Statement (.ldAD8 d8) := fun _ => by dsimp only [Instr.opcode, Instr.desc]; rfl
theorem DescOfOpcode.ldBB : DescOfOpcode.Statement (.ldBB) := fun _ => rfl
theorem DescOfOpcode.ldBC : DescOfOpcode.Statement (.ldBC) := fun _ => rfl
theorem DescOfOpcode.ldBD : DescOfOpcode.Statement (.ldBD) := fun _ => rfl
theorem DescOfOpcode.ldBE : DescOfOpcode.Statement (.ldBE) := fun _ => rfl
theorem DescOfOpcode.ldBH : DescOfOpcode.Statement (.ldBH) := fun _ => rfl
theorem DescOfOpcode.ldBL : DescOfOpcode.Statement (.ldBL) := fun _ => rfl
theorem DescOfOpcode.ldBIndHL : DescOfOpcode.Statement (.ldBIndHL) := fun _ => rfl
theorem DescOfOpcode.ldBA : DescOfOpcode.Statement (.ldBA) := fun _ => rfl
theorem DescOfOpcode.ldCB : DescOfOpcode.Statement (.ldCB) := fun _ => rfl
theorem DescOfOpcode.ldCC : DescOfOpcode.Statement (.ldCC) := fun _ => rfl
theorem DescOfOpcode.ldCD : DescOfOpcode.Statement (.ldCD) := fun _ => rfl
theorem DescOfOpcode.ldCE : DescOfOpcode.Statement (.ldCE) := fun _ => rfl
theorem DescOfOpcode.ldCH : DescOfOpcode.Statement (.ldCH) := fun _ => rfl
theorem DescOfOpcode.ldCL : DescOfOpcode.Statement (.ldCL) := fun _ => rfl
theorem DescOfOpcode.ldCIndHL : DescOfOpcode.Statement (.ldCIndHL) := fun _ => rfl
theorem DescOfOpcode.ldCA : DescOfOpcode.Statement (.ldCA) := fun _ => rfl
theorem DescOfOpcode.ldDB : DescOfOpcode.Statement (.ldDB) := fun _ => rfl
theorem DescOfOpcode.ldDC : DescOfOpcode.Statement (.ldDC) := fun _ => rfl
theorem DescOfOpcode.ldDD : DescOfOpcode.Statement (.ldDD) := fun _ => rfl
theorem DescOfOpcode.ldDE : DescOfOpcode.Statement (.ldDE) := fun _ => rfl
theorem DescOfOpcode.ldDH : DescOfOpcode.Statement (.ldDH) := fun _ => rfl
theorem DescOfOpcode.ldDL : DescOfOpcode.Statement (.ldDL) := fun _ => rfl
theorem DescOfOpcode.ldDIndHL : DescOfOpcode.Statement (.ldDIndHL) := fun _ => rfl
theorem DescOfOpcode.ldDA : DescOfOpcode.Statement (.ldDA) := fun _ => rfl
theorem DescOfOpcode.ldEB : DescOfOpcode.Statement (.ldEB) := fun _ => rfl
theorem DescOfOpcode.ldEC : DescOfOpcode.Statement (.ldEC) := fun _ => rfl
theorem DescOfOpcode.ldED : DescOfOpcode.Statement (.ldED) := fun _ => rfl
theorem DescOfOpcode.ldEE : DescOfOpcode.Statement (.ldEE) := fun _ => rfl
theorem DescOfOpcode.ldEH : DescOfOpcode.Statement (.ldEH) := fun _ => rfl
theorem DescOfOpcode.ldEL : DescOfOpcode.Statement (.ldEL) := fun _ => rfl
theorem DescOfOpcode.ldEIndHL : DescOfOpcode.Statement (.ldEIndHL) := fun _ => rfl
theorem DescOfOpcode.ldEA : DescOfOpcode.Statement (.ldEA) := fun _ => rfl
theorem DescOfOpcode.ldHB : DescOfOpcode.Statement (.ldHB) := fun _ => rfl
theorem DescOfOpcode.ldHC : DescOfOpcode.Statement (.ldHC) := fun _ => rfl
theorem DescOfOpcode.ldHD : DescOfOpcode.Statement (.ldHD) := fun _ => rfl
theorem DescOfOpcode.ldHE : DescOfOpcode.Statement (.ldHE) := fun _ => rfl
theorem DescOfOpcode.ldHH : DescOfOpcode.Statement (.ldHH) := fun _ => rfl
theorem DescOfOpcode.ldHL : DescOfOpcode.Statement (.ldHL) := fun _ => rfl
theorem DescOfOpcode.ldHIndHL : DescOfOpcode.Statement (.ldHIndHL) := fun _ => rfl
theorem DescOfOpcode.ldHA : DescOfOpcode.Statement (.ldHA) := fun _ => rfl
theorem DescOfOpcode.ldLB : DescOfOpcode.Statement (.ldLB) := fun _ => rfl
theorem DescOfOpcode.ldLC : DescOfOpcode.Statement (.ldLC) := fun _ => rfl
theorem DescOfOpcode.ldLD : DescOfOpcode.Statement (.ldLD) := fun _ => rfl
theorem DescOfOpcode.ldLE : DescOfOpcode.Statement (.ldLE) := fun _ => rfl
theorem DescOfOpcode.ldLH : DescOfOpcode.Statement (.ldLH) := fun _ => rfl
theorem DescOfOpcode.ldLL : DescOfOpcode.Statement (.ldLL) := fun _ => rfl
theorem DescOfOpcode.ldLIndHL : DescOfOpcode.Statement (.ldLIndHL) := fun _ => rfl
theorem DescOfOpcode.ldLA : DescOfOpcode.Statement (.ldLA) := fun _ => rfl
theorem DescOfOpcode.ldIndHLB : DescOfOpcode.Statement (.ldIndHLB) := fun _ => rfl
theorem DescOfOpcode.ldIndHLC : DescOfOpcode.Statement (.ldIndHLC) := fun _ => rfl
theorem DescOfOpcode.ldIndHLD : DescOfOpcode.Statement (.ldIndHLD) := fun _ => rfl
theorem DescOfOpcode.ldIndHLE : DescOfOpcode.Statement (.ldIndHLE) := fun _ => rfl
theorem DescOfOpcode.ldIndHLH : DescOfOpcode.Statement (.ldIndHLH) := fun _ => rfl
theorem DescOfOpcode.ldIndHLL : DescOfOpcode.Statement (.ldIndHLL) := fun _ => rfl
theorem DescOfOpcode.ldIndHLA : DescOfOpcode.Statement (.ldIndHLA) := fun _ => rfl
theorem DescOfOpcode.ldAB : DescOfOpcode.Statement (.ldAB) := fun _ => rfl
theorem DescOfOpcode.ldAC : DescOfOpcode.Statement (.ldAC) := fun _ => rfl
theorem DescOfOpcode.ldAD : DescOfOpcode.Statement (.ldAD) := fun _ => rfl
theorem DescOfOpcode.ldAE : DescOfOpcode.Statement (.ldAE) := fun _ => rfl
theorem DescOfOpcode.ldAH : DescOfOpcode.Statement (.ldAH) := fun _ => rfl
theorem DescOfOpcode.ldAL : DescOfOpcode.Statement (.ldAL) := fun _ => rfl
theorem DescOfOpcode.ldAIndHL : DescOfOpcode.Statement (.ldAIndHL) := fun _ => rfl
theorem DescOfOpcode.ldAA : DescOfOpcode.Statement (.ldAA) := fun _ => rfl
theorem DescOfOpcode.xorB : DescOfOpcode.Statement (.xorB) := fun _ => rfl
theorem DescOfOpcode.xorC : DescOfOpcode.Statement (.xorC) := fun _ => rfl
theorem DescOfOpcode.xorD : DescOfOpcode.Statement (.xorD) := fun _ => rfl
theorem DescOfOpcode.xorE : DescOfOpcode.Statement (.xorE) := fun _ => rfl
theorem DescOfOpcode.xorH : DescOfOpcode.Statement (.xorH) := fun _ => rfl
theorem DescOfOpcode.xorL : DescOfOpcode.Statement (.xorL) := fun _ => rfl
theorem DescOfOpcode.xorIndHL : DescOfOpcode.Statement (.xorIndHL) := fun _ => rfl
theorem DescOfOpcode.xorA : DescOfOpcode.Statement (.xorA) := fun _ => rfl
theorem DescOfOpcode.retNZ : DescOfOpcode.Statement (.retNZ) := fun _ => rfl
theorem DescOfOpcode.popBC : DescOfOpcode.Statement (.popBC) := fun _ => rfl
theorem DescOfOpcode.jpNZA16 (a16 : Word) : DescOfOpcode.Statement (.jpNZA16 a16) := fun _ => by dsimp only [Instr.opcode, Instr.desc]; rfl
theorem DescOfOpcode.jpA16 (a16 : Word) : DescOfOpcode.Statement (.jpA16 a16) := fun _ => by dsimp only [Instr.opcode, Instr.desc]; rfl
theorem DescOfOpcode.callNZA16 (a16 : Word) : DescOfOpcode.Statement (.callNZA16 a16) := fun _ => by dsimp only [Instr.opcode, Instr.desc]; rfl
theorem DescOfOpcode.pushBC : DescOfOpcode.Statement (.pushBC) := fun _ => rfl
theorem DescOfOpcode.rst00 : DescOfOpcode.Statement (.rst00) := fun _ => rfl
theorem DescOfOpcode.retZ : DescOfOpcode.Statement (.retZ) := fun _ => rfl
theorem DescOfOpcode.ret : DescOfOpcode.Statement (.ret) := fun _ => rfl
theorem DescOfOpcode.jpZA16 (a16 : Word) : DescOfOpcode.Statement (.jpZA16 a16) := fun _ => by dsimp only [Instr.opcode, Instr.desc]; rfl
theorem DescOfOpcode.callZA16 (a16 : Word) : DescOfOpcode.Statement (.callZA16 a16) := fun _ => by dsimp only [Instr.opcode, Instr.desc]; rfl
theorem DescOfOpcode.callA16 (a16 : Word) : DescOfOpcode.Statement (.callA16 a16) := fun _ => by dsimp only [Instr.opcode, Instr.desc]; rfl
theorem DescOfOpcode.rst08 : DescOfOpcode.Statement (.rst08) := fun _ => rfl
theorem DescOfOpcode.retNC : DescOfOpcode.Statement (.retNC) := fun _ => rfl
theorem DescOfOpcode.popDE : DescOfOpcode.Statement (.popDE) := fun _ => rfl
theorem DescOfOpcode.jpNCA16 (a16 : Word) : DescOfOpcode.Statement (.jpNCA16 a16) := fun _ => by dsimp only [Instr.opcode, Instr.desc]; rfl
theorem DescOfOpcode.callNCA16 (a16 : Word) : DescOfOpcode.Statement (.callNCA16 a16) := fun _ => by dsimp only [Instr.opcode, Instr.desc]; rfl
theorem DescOfOpcode.pushDE : DescOfOpcode.Statement (.pushDE) := fun _ => rfl
theorem DescOfOpcode.rst10 : DescOfOpcode.Statement (.rst10) := fun _ => rfl
theorem DescOfOpcode.retC : DescOfOpcode.Statement (.retC) := fun _ => rfl
theorem DescOfOpcode.reti : DescOfOpcode.Statement (.reti) := fun _ => rfl
theorem DescOfOpcode.jpCA16 (a16 : Word) : DescOfOpcode.Statement (.jpCA16 a16) := fun _ => by dsimp only [Instr.opcode, Instr.desc]; rfl
theorem DescOfOpcode.callCA16 (a16 : Word) : DescOfOpcode.Statement (.callCA16 a16) := fun _ => by dsimp only [Instr.opcode, Instr.desc]; rfl
theorem DescOfOpcode.rst18 : DescOfOpcode.Statement (.rst18) := fun _ => rfl
theorem DescOfOpcode.ldhIndA8A (a8 : Byte) : DescOfOpcode.Statement (.ldhIndA8A a8) := fun _ => by dsimp only [Instr.opcode, Instr.desc]; rfl
theorem DescOfOpcode.popHL : DescOfOpcode.Statement (.popHL) := fun _ => rfl
theorem DescOfOpcode.ldIndCA : DescOfOpcode.Statement (.ldIndCA) := fun _ => rfl
theorem DescOfOpcode.pushHL : DescOfOpcode.Statement (.pushHL) := fun _ => rfl
theorem DescOfOpcode.rst20 : DescOfOpcode.Statement (.rst20) := fun _ => rfl
theorem DescOfOpcode.jpHL : DescOfOpcode.Statement (.jpHL) := fun _ => rfl
theorem DescOfOpcode.ldIndA16A (a16 : Word) : DescOfOpcode.Statement (.ldIndA16A a16) := fun _ => by dsimp only [Instr.opcode, Instr.desc]; rfl
theorem DescOfOpcode.xorD8 (d8 : Byte) : DescOfOpcode.Statement (.xorD8 d8) := fun _ => by dsimp only [Instr.opcode, Instr.desc]; rfl
theorem DescOfOpcode.rst28 : DescOfOpcode.Statement (.rst28) := fun _ => rfl
theorem DescOfOpcode.ldhAIndA8 (a8 : Byte) : DescOfOpcode.Statement (.ldhAIndA8 a8) := fun _ => by dsimp only [Instr.opcode, Instr.desc]; rfl
theorem DescOfOpcode.popAF : DescOfOpcode.Statement (.popAF) := fun _ => rfl
theorem DescOfOpcode.ldAIndC : DescOfOpcode.Statement (.ldAIndC) := fun _ => rfl
theorem DescOfOpcode.di : DescOfOpcode.Statement (.di) := fun _ => rfl
theorem DescOfOpcode.pushAF : DescOfOpcode.Statement (.pushAF) := fun _ => rfl
theorem DescOfOpcode.rst30 : DescOfOpcode.Statement (.rst30) := fun _ => rfl
theorem DescOfOpcode.ldHLSPe8 (e8 : Byte) : DescOfOpcode.Statement (.ldHLSPe8 e8) := fun _ => by dsimp only [Instr.opcode, Instr.desc]; rfl
theorem DescOfOpcode.ldSPHL : DescOfOpcode.Statement (.ldSPHL) := fun _ => rfl
theorem DescOfOpcode.ldAIndA16 (a16 : Word) : DescOfOpcode.Statement (.ldAIndA16 a16) := fun _ => by dsimp only [Instr.opcode, Instr.desc]; rfl
theorem DescOfOpcode.rst38 : DescOfOpcode.Statement (.rst38) := fun _ => rfl
theorem DescOfOpcode.invalid (opcode : Byte) : DescOfOpcode.Statement (.invalid opcode) := fun h => by
  simp only [Instr.wf] at h
  simp [descOf, lookupIn, Instr.opcode, lookup_unmapped _ h, Row.build, Instr.desc]

end Sys2Proof.Laws
end

