-- ==== Sys2Proof/Laws/Registers.lean ====
section
/-! SUPPORT. Bytes and words taken apart and joined, and what the register accessors read and leave. -/

namespace Sys2Proof

theorem getLsbD_join (hi lo : Byte) (i : Nat) : (join hi lo).getLsbD i = if i < 8 then lo.getLsbD i else hi.getLsbD (i - 8) :=
  BitVec.getLsbD_append

@[simp] theorem hiByte_join (hi lo : Byte) : hiByte (join hi lo) = hi := by
  apply BitVec.eq_of_getLsbD_eq; intro i h
  simp [hiByte, getLsbD_join, h]

@[simp] theorem loByte_join (hi lo : Byte) : loByte (join hi lo) = lo := by
  apply BitVec.eq_of_getLsbD_eq; intro i h
  simp [loByte, getLsbD_join, h]

@[simp] theorem join_hiByte_loByte (w : Word) : join (hiByte w) (loByte w) = w := by
  apply BitVec.eq_of_getLsbD_eq; intro i h
  simp only [getLsbD_join, hiByte, loByte, BitVec.getLsbD_extractLsb']
  split
  · simp [*]
  · rw [show 8 + (i - 8) = i by omega]; simp; omega

@[simp] theorem loByte_zext (b : Byte) : loByte (zext b) = b := by
  apply BitVec.eq_of_getLsbD_eq; intro i hi
  simp only [loByte, zext, BitVec.getLsbD_extractLsb', BitVec.getLsbD_setWidth]; simp [hi]; omega

namespace Machine

variable (s : State)

/-- A register whose width the value fits reads back what was written. -/
theorem read_write_self8 (r : Reg) (b : Byte) (hr : r ∈ [Reg.a, .b, .c, .d, .e, .h, .l]) : (s.write r (zext b)).read r = zext b := by
  simp only [List.mem_cons, List.not_mem_nil, or_false] at hr
  rcases hr with rfl | rfl | rfl | rfl | rfl | rfl | rfl <;> simp [State.read, State.write]

theorem read_write_self16 (r : Reg) (v : Word) (hr : r ∈ [Reg.bc, .de, .hl, .sp, .pc]) : (s.write r v).read r = v := by
  simp only [List.mem_cons, List.not_mem_nil, or_false] at hr
  rcases hr with rfl | rfl | rfl | rfl | rfl <;> simp [State.read, State.write]

@[simp] theorem read_setT (t : Transient) (r : Reg) : (s.setT t).read r = s.read r := by cases r <;> rfl
@[simp] theorem read_tick (n : Nat) (r : Reg) : (s.tick n).read r = s.read r := by cases r <;> rfl
@[simp] theorem read_discard (r : Reg) : s.discard.read r = s.read r := by cases r <;> rfl
@[simp] theorem read_setIme (b : Bool) (r : Reg) : (s.setIme b).read r = s.read r := by cases r <;> rfl
@[simp] theorem read_setIe (b : Byte) (r : Reg) : (s.setIe b).read r = s.read r := by cases r <;> rfl
@[simp] theorem read_setFetched (v : Word) (r : Reg) : (s.setFetched v).read r = s.read r := by cases r <;> rfl
@[simp] theorem read_setMemDest (v : Word) (r : Reg) : (s.setMemDest v).read r = s.read r := by cases r <;> rfl
@[simp] theorem read_setCurOpcode (v : Byte) (r : Reg) : (s.setCurOpcode v).read r = s.read r := by cases r <;> rfl
@[simp] theorem read_beginResolve (d : Desc) (r : Reg) : (s.beginResolve d).read r = s.read r := by cases r <;> rfl

end Machine

end Sys2Proof
end

