-- ==== Sys2Proof/Laws/Decode.lean ====
section
/-! SUPPORT. What the decoder answers for each shape of table entry, and what an entry's instruction keeps of its opcode. -/

namespace Sys2Proof

variable {leftOut rest : List Byte} {opcode : Byte}

theorem lookupIn_admitted (h : leftOut.contains opcode = false) : lookupIn leftOut opcode = lookup opcode := by
  rw [lookupIn, h]; rfl

theorem decodeIn_op0 {i : Instr} (h : lookupIn leftOut opcode = .op0 i) : decodeIn leftOut (opcode :: rest) = .instr i rest := by
  simp only [decodeIn, instrOf]; rw [h]; cases rest <;> rfl

theorem decodeIn_op1 {b : Byte} {mk : Byte → Instr} (h : lookupIn leftOut opcode = .op1 mk) :
    decodeIn leftOut (opcode :: b :: rest) = .instr (mk b) rest := by
  simp only [decodeIn, instrOf]; rw [h]; simp [Row.format, Row.build]

theorem decodeIn_op2 {lo hi : Byte} {mk : Word → Instr} (h : lookupIn leftOut opcode = .op2 mk) :
    decodeIn leftOut (opcode :: lo :: hi :: rest) = .instr (mk (join hi lo)) rest := by
  simp only [decodeIn, instrOf]; rw [h]; simp [Row.format, Row.build]

theorem decodeIn_unmapped (h : lookupIn leftOut opcode = .unmapped) :
    decodeIn leftOut (opcode :: rest) = .instr (.invalid opcode) rest := by
  simp only [decodeIn, instrOf]; rw [h]; cases rest <;> rfl

/-- The length an opcode's mode fixes is the format of its table entry (30_encoding.md R75). -/
theorem descOf_format (leftOut : List Byte) (opcode : Byte) :
    (descOf leftOut opcode).mode.format = (lookupIn leftOut opcode).format := by
  unfold descOf
  by_cases hc : leftOut.contains opcode = true
  · rw [lookupIn, if_pos hc]; rfl
  · rw [lookupIn, if_neg hc]
    obtain ⟨n, hn, rfl⟩ : ∃ n, n < 256 ∧ opcode = BitVec.ofNat 8 n := ⟨opcode.toNat, opcode.isLt, by simp⟩
    clear hc
    interval_cases n <;> rfl

/-- The instruction of an opcode has the opcode's descriptor, the opcode, and the immediate bytes of its format. -/
theorem instrOf_desc (leftOut : List Byte) (opcode : Byte) (imm : Word) :
    (instrOf leftOut opcode imm).desc = descOf leftOut opcode ∧ (instrOf leftOut opcode imm).opcode = opcode ∧
      (instrOf leftOut opcode imm).immBytes.length + 1 = (lookupIn leftOut opcode).format.length := by
  unfold descOf instrOf
  by_cases hc : leftOut.contains opcode = true
  · rw [lookupIn, if_pos hc]; exact ⟨rfl, rfl, rfl⟩
  · rw [lookupIn, if_neg hc]
    obtain ⟨n, hn, rfl⟩ : ∃ n, n < 256 ∧ opcode = BitVec.ofNat 8 n := ⟨opcode.toNat, opcode.isLt, by simp⟩
    clear hc
    interval_cases n <;> exact ⟨rfl, rfl, rfl⟩

end Sys2Proof
end

