-- ==== Sys2Proof/Laws/Stack.lean ====
section
/-! SUPPORT. What the stack helper and the 16-bit composites can do: each of their outcomes, said once. -/

namespace Sys2Proof.Machine

variable (s : State)

theorem sub_one_sub_one (x : Word) : x - 1 - 1 = x - 2 := by bv_omega
theorem add_one_add_one (x : Word) : x + 1 + 1 = x + 2 := by bv_omega
theorem sub_two_ne_sub_one (x : Word) : x - 2 ≠ x - 1 := by bv_omega
theorem sub_one_ne_sub_two (x : Word) : x - 1 ≠ x - 2 := by bv_omega
theorem add_one_ne_self (x : Word) : x + 1 ≠ x := by bv_omega
theorem self_ne_add_one (x : Word) : x ≠ x + 1 := by bv_omega

/-! ## push -/

/-- The state after a push8. -/
def pushed8 (b : Byte) (s : State) : State := (s.setSp (s.sp - 1)).place (s.sp - 1) b

/-- The state after a push16. -/
def pushed16 (v : Word) (s : State) : State := pushed8 (loByte v) (pushed8 (hiByte v) s)

@[simp] theorem pushed8_sp (b : Byte) : (pushed8 b s).sp = s.sp - 1 := by rw [pushed8, place_sp, State.setSp_sp]

theorem push8_ok {b : Byte} (h : Writable (s.sp - 1)) : push8 b s = .ok () (pushed8 b s) := by
  show busWrite _ b _ = _
  exact busWrite_ok h b _

theorem push8_raise {b : Byte} (h : ¬ Writable (s.sp - 1)) :
    push8 b s = .raise (.unsupportedRegion (s.sp - 1) (.write b)) (s.setSp (s.sp - 1)) := by
  show busWrite _ b _ = _
  exact busWrite_raise h b _

theorem push16_ok {v : Word} (h1 : Writable (s.sp - 1)) (h2 : Writable (s.sp - 2)) : push16 v s = .ok () (pushed16 v s) := by
  rw [push16, push8_ok s h1, Res.bind_ok, push8_ok _ (by rwa [pushed8_sp, sub_one_sub_one])]
  rfl

theorem push16_raise_high {v : Word} (h : ¬ Writable (s.sp - 1)) :
    push16 v s = .raise (.unsupportedRegion (s.sp - 1) (.write (hiByte v))) (s.setSp (s.sp - 1)) := by
  rw [push16, push8_raise s h, Res.bind_raise]

theorem push16_raise_low {v : Word} (h1 : Writable (s.sp - 1)) (h2 : ¬ Writable (s.sp - 2)) :
    push16 v s = .raise (.unsupportedRegion (s.sp - 2) (.write (loByte v))) ((pushed8 (hiByte v) s).setSp (s.sp - 2)) := by
  rw [push16, push8_ok s h1, Res.bind_ok, push8_raise _ (by rwa [pushed8_sp, sub_one_sub_one]), pushed8_sp, sub_one_sub_one]

/-- A push16 that completes had both its addresses writable. -/
theorem push16_inv {v : Word} {s s' : State} (h : push16 v s = .ok () s') :
    Writable (s.sp - 1) ∧ Writable (s.sp - 2) ∧ s' = pushed16 v s := by
  by_cases h1 : Writable (s.sp - 1)
  · by_cases h2 : Writable (s.sp - 2)
    · rw [push16_ok s h1 h2] at h; cases h; exact ⟨h1, h2, rfl⟩
    · rw [push16_raise_low s h1 h2] at h; cases h
  · rw [push16_raise_high s h1] at h; cases h

@[simp] theorem pushed16_sp (v : Word) : (pushed16 v s).sp = s.sp - 2 := by
  rw [pushed16, pushed8_sp, pushed8_sp, sub_one_sub_one]

/-- What the bus reads after a push16 outside an open provider's windows. -/
theorem peek_pushed16 {v : Word} (h1 : Writable (s.sp - 1)) (h2 : Writable (s.sp - 2)) (ho1 : ¬ s.OpenAt (s.sp - 1))
    (ho2 : ¬ s.OpenAt (s.sp - 2)) (x : Word) :
    (pushed16 v s).peek x =
      if x = s.sp - 2 then some (loByte v) else if x = s.sp - 1 then some (hiByte v) else s.peek x := by
  have ho : ¬ ((pushed8 (hiByte v) s).setSp (s.sp - 2)).OpenAt (s.sp - 2) := by
    rwa [State.OpenAt, State.setSp_params, pushed8, place_params, State.setSp_params]
  rw [pushed16, pushed8, pushed8_sp, sub_one_sub_one, peek_place h2 ho, peek_setSp, pushed8, peek_place (s := s.setSp (s.sp - 1)) h1 ho1,
    peek_setSp]

/-- Both bytes of the word a push16 wrote read back, but for the business of an open provider. -/
theorem holds_pushed16 {v : Word} (h1 : Writable (s.sp - 1)) (h2 : Writable (s.sp - 2)) :
    (pushed16 v s).Holds (s.sp - 1) (hiByte v) ∧ (pushed16 v s).Holds (s.sp - 2) (loByte v) := by
  rw [pushed16, pushed8, pushed8_sp, sub_one_sub_one]
  have h : ((pushed8 (hiByte v) s).setSp (s.sp - 2)).Holds (s.sp - 1) (hiByte v) :=
    (holds_place h1 (hiByte v) (s.setSp (s.sp - 1))).congr rfl (peek_setSp ..)
  exact ⟨h.place h2 (sub_one_ne_sub_two _), holds_place h2 _ _⟩

/-! ## pop -/

@[simp] theorem notePop_params : s.notePop.params = s.params := by simp [State.notePop]

theorem pop8_ok {b : Byte} (h : s.peek s.sp = some b) : pop8 s = .ok b ((s.note (.read s.sp)).setSp (s.sp + 1)) := by
  rw [pop8, busRead_some h, Res.bind_ok, State.note_sp]

theorem pop8_raise (h : s.peek s.sp = none) : pop8 s = .raise (.unsupportedRegion s.sp .read) s := by
  rw [pop8, busRead_none h, Res.bind_raise]

theorem pop16_ok {lo hi : Byte} (h1 : s.peek s.sp = some lo) (h2 : (s.note (.read s.sp)).peek (s.sp + 1) = some hi) :
    pop16 s = .ok (join hi lo) (s.notePop.setSp (s.sp + 2)) := by
  rw [pop16, pop8_ok s h1, Res.bind_ok, pop8_ok (b := hi) _ (by rwa [peek_setSp]), Res.bind_ok, State.setSp_sp, add_one_add_one,
    State.note_setSp]
  rfl

theorem pop16_raise_low (h : s.peek s.sp = none) : pop16 s = .raise (.unsupportedRegion s.sp .read) s := by
  rw [pop16, pop8_raise s h, Res.bind_raise]

theorem pop16_raise_high {lo : Byte} (h1 : s.peek s.sp = some lo) (h2 : s.peek (s.sp + 1) = none) :
    pop16 s = .raise (.unsupportedRegion (s.sp + 1) .read) ((s.note (.read s.sp)).setSp (s.sp + 1)) := by
  rw [peek_eq_none_iff] at h2
  rw [pop16, pop8_ok s h1, Res.bind_ok, pop8_raise _ (by rwa [State.setSp_sp, peek_eq_none_iff]), Res.bind_raise, State.setSp_sp]

/-- The three ways a pop16 can go. -/
theorem pop16_cases : s.peek s.sp = none ∨ (∃ lo, s.peek s.sp = some lo ∧ s.peek (s.sp + 1) = none) ∨
    ∃ lo hi, s.peek s.sp = some lo ∧ (s.note (.read s.sp)).peek (s.sp + 1) = some hi := by
  cases h1 : s.peek s.sp with
  | none => exact .inl rfl
  | some lo =>
    by_cases hr : Readable (s.sp + 1)
    · obtain ⟨hi, h⟩ := (peek_isSome_iff _ (s.note (.read s.sp))).mpr hr
      exact .inr (.inr ⟨lo, hi, rfl, h⟩)
    · exact .inr (.inl ⟨lo, rfl, (peek_eq_none_iff ..).mpr hr⟩)

/-! ## 16-bit writes -/

theorem write16_ok {addr v : Word} (h1 : Writable (addr + 1)) (h2 : Writable addr) :
    write16 addr v s = .ok () ((s.place (addr + 1) (hiByte v)).place addr (loByte v)) := by
  rw [write16, busWrite_ok h1, Res.bind_ok, busWrite_ok h2]

theorem write16_raise_high {addr v : Word} (h : ¬ Writable (addr + 1)) :
    write16 addr v s = .raise (.unsupportedRegion (addr + 1) (.write (hiByte v))) s := by
  rw [write16, busWrite_raise h, Res.bind_raise]

theorem write16_raise_low {addr v : Word} (h1 : Writable (addr + 1)) (h2 : ¬ Writable addr) :
    write16 addr v s = .raise (.unsupportedRegion addr (.write (loByte v))) (s.place (addr + 1) (hiByte v)) := by
  rw [write16, busWrite_ok h1, Res.bind_ok, busWrite_raise h2]

end Sys2Proof.Machine
end

