-- ==== Sys2Proof/Laws/Exec.lean ====
section
/-! SUPPORT. Every meaning is the descriptor of its opcode run by the shared resolver and handlers, and what those can do
to a property of the state: one lemma for all instructions. -/

namespace Sys2Proof.Machine

/-- The immediate of an instruction as the resolver takes it (40_step_and_addressing.md R100). -/
def immOf (i : Instr) : Word :=
  match i.immBytes with
  | [lo, hi] => join hi lo
  | [b] => zext b
  | _ => 0

/-- The state a meaning starts from: INVALID latches its opcode, every other instruction starts from the state itself. -/
def latched (i : Instr) (s : State) : State := if i.desc.kind = .none then s.setCurOpcode i.opcode else s

/-- Each arm of `exec` runs the table's descriptor of its instruction (R97, R102). -/
theorem exec_eq_runDesc (i : Instr) (s : State) : exec i s = runDesc i.desc (immOf i) (latched i s) := by
  cases i
  all_goals first
    | rfl
    | (simp only [exec, immOf, Instr.immBytes, join_hiByte_loByte]; rfl)

/-! ## A property that every primitive update keeps is kept by Resolve and Execute -/

/-- `P` holds of the state a result ends in, whether it completes or raises. -/
def Res.Ends {α : Type} (P : State → Prop) : Res α → Prop
  | .ok _ s => P s
  | .raise _ s => P s

theorem Res.Ends.bind {α β : Type} {P : State → Prop} {r : Res α} {k : α → State → Res β} (hr : r.Ends P)
    (hk : ∀ x s, P s → (k x s).Ends P) : (r.bind k).Ends P := by
  cases r with
  | ok x s => exact hk x s hr
  | raise info s => exact hr

/-- `P` is kept by every update an instruction makes, but for the writes of IME. -/
structure Stable (P : State → Prop) : Prop where
  tick : ∀ n s, P s → P (s.tick n)
  setPc : ∀ v s, P s → P (s.setPc v)
  setSp : ∀ v s, P s → P (s.setSp v)
  setF : ∀ v s, P s → P (s.setF v)
  setT : ∀ t s, P s → P (s.setT t)
  write : ∀ r v s, P s → P (s.write r v)
  place : ∀ a b s, Writable a → P s → P (s.place a b)
  note : ∀ x s, P s → P (s.note x)

variable {P : State → Prop}

theorem Stable.busRead (hP : Stable P) {addr : Word} {s : State} (h : P s) : (busRead addr s).Ends P := by
  rw [busRead_eq]; split
  · exact hP.note _ _ h
  · exact h

theorem Stable.busWrite (hP : Stable P) {addr : Word} {b : Byte} {s : State} (h : P s) : (busWrite addr b s).Ends P := by
  by_cases hw : Writable addr
  · rw [busWrite_ok hw]; exact hP.place _ _ _ hw h
  · rw [busWrite_raise hw]; exact h

theorem Stable.write16 (hP : Stable P) {addr v : Word} {s : State} (h : P s) : (write16 addr v s).Ends P :=
  (hP.busWrite h).bind fun _ _ h => hP.busWrite h

theorem Stable.push16 (hP : Stable P) {v : Word} {s : State} (h : P s) : (push16 v s).Ends P :=
  Res.Ends.bind (hP.busWrite (hP.setSp _ _ h)) fun _ _ h => hP.busWrite (hP.setSp _ _ h)

theorem Stable.pop8 (hP : Stable P) {s : State} (h : P s) : (pop8 s).Ends P :=
  (hP.busRead h).bind fun _ _ h => hP.setSp _ _ h

theorem Stable.pop16 (hP : Stable P) {s : State} (h : P s) : (pop16 s).Ends P :=
  (hP.pop8 h).bind fun _ _ h => (hP.pop8 h).bind fun _ _ h => h

theorem Stable.fetchFrom (hP : Stable P) {addr : Word} {s : State} (h : P s) : (fetchFrom addr s).Ends P :=
  (hP.busRead h).bind fun _ _ h => hP.setT _ _ h

theorem Stable.resolve (hP : Stable P) {imm : Word} {s : State} (h : P s) : (resolve imm s).Ends P := by
  have hT : ∀ {s : State} (t : Transient), P s → P (s.setT t) := fun t h => hP.setT t _ h
  unfold Sys2Proof.Machine.resolve
  dsimp only
  cases s.t.curDesc.mode
  case imp => exact h
  case r => exact hT _ h
  case rR => exact hT _ h
  case rD8 => exact hT _ h
  case rD16 => exact hT _ h
  case d8 => exact hT _ h
  case d16 => exact hT _ h
  case mrR => exact hT _ (hT _ h)
  case hliR => exact hP.write _ _ _ (hT _ (hT _ h))
  case hldR => exact hP.write _ _ _ (hT _ (hT _ h))
  case rMr => exact hP.fetchFrom h
  case rHli => exact (hP.fetchFrom h).bind fun _ _ h => hP.write _ _ _ h
  case rHld => exact (hP.fetchFrom h).bind fun _ _ h => hP.write _ _ _ h
  case mrD8 => exact hT _ (hT _ h)
  case mr => exact hP.fetchFrom (hT _ h)
  case a16R => exact hT _ (hT _ h)
  case rA16 => exact hP.fetchFrom h
  case a8R => exact hT _ (hT _ h)
  case rA8 => exact hT _ h
  case hlSpr => exact hT _ h

/-- Execute keeps `P`; DI and RETI need that `P` also survives their write of IME. -/
theorem Stable.execute (hP : Stable P) {s : State} (h : P s) (hime : s.t.curDesc.kind = .di ∨ s.t.curDesc.kind = .reti → ∀ b, P (s.setIme b)) :
    (execute s).Ends P := by
  have hT : ∀ {s : State} (t : Transient), P s → P (s.setT t) := fun t h => hP.setT t _ h
  have hF : ∀ {s : State} (z n h c : Directive), P s → P (setFlags z n h c s) := fun _ _ _ _ h => hP.setF _ _ h
  unfold Sys2Proof.Machine.execute
  cases hk : s.t.curDesc.kind
  case nop => exact h
  case ld =>
    show (handleLd s).Ends P
    unfold handleLd; dsimp only
    split
    · exact hP.write _ _ _ (hF _ _ _ _ h)
    · split
      · split
        · exact hP.write16 (hP.tick _ _ h)
        · exact hP.busWrite h
      · exact hP.write _ _ _ h
  case ldh =>
    show (handleLdh s).Ends P
    unfold handleLdh
    split
    · exact (hP.busRead h).bind fun _ _ h => hP.write _ _ _ h
    · exact hP.busWrite h
  case jp | jr | call =>
    show (handleBranch s).Ends P
    unfold handleBranch; dsimp only
    split_ifs <;> first | exact h | exact hP.setPc _ _ h | exact (hP.push16 h).bind fun _ _ h => hP.setPc _ _ h
  case ret =>
    show (handleRet s).Ends P
    unfold handleRet; dsimp only
    have ret : ∀ {s : State}, P s → ((Sys2Proof.Machine.pop16 s).bind fun v s => Res.ok () (s.setPc v)).Ends P :=
      fun h => (hP.pop16 h).bind fun _ _ h => hP.setPc _ _ h
    split_ifs <;> first | exact h | exact hP.tick _ _ h | exact ret h | exact ret (hP.tick _ _ h)
  case reti => exact (hP.pop16 (hime (.inr hk) true)).bind fun _ _ h => hP.setPc _ _ h
  case rst => exact (hP.push16 h).bind fun _ _ h => hP.setPc _ _ h
  case push => exact hP.push16 h
  case pop => exact (hP.pop16 h).bind fun _ _ h => hP.write _ _ _ h
  case inc =>
    show (handleInc s).Ends P
    unfold handleInc; dsimp only
    split
    · exact (hP.busWrite h).bind fun _ _ h => hF _ _ _ _ h
    · split
      · exact hP.write _ _ _ (hP.tick _ _ h)
      · exact hF _ _ _ _ (hP.write _ _ _ h)
  case xor => exact hF _ _ _ _ (hP.write _ _ _ h)
  case di => exact hime (.inl hk) false
  case none => exact h

/-- What a step has latched: the descriptor, the opcode and its address. -/
def SameLatch (s s' : State) : Prop :=
  s'.t.curDesc = s.t.curDesc ∧ s'.t.curOpcode = s.t.curOpcode ∧ s'.t.opcodePc = s.t.opcodePc

theorem fetchFrom_latch {addr : Word} {s s' : State} (h : SameLatch s s') : (fetchFrom addr s').Ends (SameLatch s) := by
  rw [fetchFrom, busRead_eq]; split
  · simpa [SameLatch, Res.Ends] using h
  · exact h

/-- Resolve changes none of it. -/
theorem resolve_latch (imm : Word) (s : State) : (resolve imm s).Ends (SameLatch s) := by
  have h : SameLatch s s := ⟨rfl, rfl, rfl⟩
  unfold resolve
  dsimp only
  cases s.t.curDesc.mode
  case rMr | rA16 => exact fetchFrom_latch h
  case mr => exact fetchFrom_latch (addr := s.read .hl) (s' := s.setMemDest (s.read .hl)) h
  case rHli | rHld => exact (fetchFrom_latch h).bind fun _ _ h => h
  all_goals exact h

/-- One instruction keeps a stable property, in the next state and in the state a fault leaves before its status changes.
DI and RETI need that the property does not speak of IME. -/
theorem exec_stable (hP : Stable P) {i : Instr} {s : State} (h : P s)
    (hime : i.desc.kind = .di ∨ i.desc.kind = .reti → ∀ b s, P s → P (s.setIme b)) :
    (∀ s', exec i s = .next s' → P s' ∧ s'.t = .cleared) ∧
    (∀ r, exec i s = .fault r → ∃ info s', P s' ∧ takeFault info s' = .fault r) ∧ (∀ r, exec i s ≠ .refused r) := by
  have hl : P (latched i s) := by
    unfold latched; split
    · exact hP.setT _ _ h
    · exact h
  rw [exec_eq_runDesc, runDesc]
  have hr := resolve_latch (immOf i) ((latched i s).beginResolve i.desc)
  have hp := hP.resolve (imm := immOf i) (hP.setT { (latched i s).t with
    curDesc := i.desc, fetched := 0, destIsMem := false, memDest := 0, sprH := false, sprC := false } _ hl)
  change (resolve (immOf i) ((latched i s).beginResolve i.desc)).Ends P at hp
  generalize resolve (immOf i) ((latched i s).beginResolve i.desc) = r at hr hp
  cases r with
  | raise info s1 =>
    refine ⟨?_, ?_, ?_⟩
    · intro s' he; cases info <;> simp at he
    · intro r he; exact ⟨info, s1, hp, he⟩
    · intro r he; cases info <;> simp at he
  | ok x s1 =>
    simp only [Res.bind_ok]
    have hx := hP.execute hp (by rw [hr.1]; intro hk b; exact hime hk b _ hp)
    generalize execute s1 = r2 at hx
    cases r2 with
    | raise info s2 =>
      refine ⟨?_, ?_, ?_⟩
      · intro s' he; cases info <;> simp at he
      · intro r he; exact ⟨info, s2, hx, he⟩
      · intro r he; cases info <;> simp at he
    | ok y s2 =>
      refine ⟨?_, ?_, ?_⟩
      · intro s' he; cases he; exact ⟨hP.setT _ _ hx, rfl⟩
      · intro r he; cases he
      · intro r he; cases he

end Sys2Proof.Machine
end

