-- ==== Sys2Proof/Laws/Faults.lean ====
section
/-! SUPPORT. Which faults the operations can raise: the bus raises only for a window that does not take the access, and
nothing but the sentinel raises InvalidInstruction. -/

namespace Sys2Proof.Machine

/-- A result that raises only what the bus may raise. -/
def Res.BusFaultsOnly {α : Type} : Res α → Prop
  | .ok _ _ => True
  | .raise (.unsupportedRegion addr .read) _ => ¬ Readable addr
  | .raise (.unsupportedRegion addr (.write _)) _ => ¬ Writable addr
  | .raise (.invalidInstruction _ _) _ => False

theorem Res.BusFaultsOnly.bind {α β : Type} {r : Res α} {k : α → State → Res β} (hr : r.BusFaultsOnly)
    (hk : ∀ x s, (k x s).BusFaultsOnly) : (r.bind k).BusFaultsOnly := by
  cases r with
  | ok x s => exact hk x s
  | raise info s =>
    cases info with
    | invalidInstruction => exact hr
    | unsupportedRegion addr access => cases access <;> exact hr

theorem busRead_faults (addr : Word) (s : State) : (busRead addr s).BusFaultsOnly := by
  cases h : s.peek addr with
  | none => rw [busRead_none h]; exact (peek_eq_none_iff addr s).mp h
  | some b => rw [busRead_some h]; trivial

theorem busWrite_faults (addr : Word) (b : Byte) (s : State) : (busWrite addr b s).BusFaultsOnly := by
  by_cases h : Writable addr
  · rw [busWrite_ok h]; trivial
  · rw [busWrite_raise h]; exact h

theorem write16_faults (addr v : Word) (s : State) : (write16 addr v s).BusFaultsOnly :=
  (busWrite_faults ..).bind fun _ _ => busWrite_faults ..

theorem push16_faults (v : Word) (s : State) : (push16 v s).BusFaultsOnly :=
  Res.BusFaultsOnly.bind (busWrite_faults ..) fun _ _ => busWrite_faults ..

theorem pop8_faults (s : State) : (pop8 s).BusFaultsOnly := (busRead_faults ..).bind fun _ _ => trivial

theorem pop16_faults (s : State) : (pop16 s).BusFaultsOnly :=
  (pop8_faults s).bind fun _ _ => (pop8_faults _).bind fun _ _ => trivial

theorem fetchFrom_faults (addr : Word) (s : State) : (fetchFrom addr s).BusFaultsOnly :=
  (busRead_faults ..).bind fun _ _ => trivial

theorem resolve_faults (imm : Word) (s : State) : (resolve imm s).BusFaultsOnly := by
  unfold resolve
  dsimp only
  cases s.t.curDesc.mode
  case rMr | rA16 | mr => exact fetchFrom_faults ..
  case rHli | rHld => exact (fetchFrom_faults ..).bind fun _ _ => trivial
  all_goals trivial

theorem execute_faults {s : State} (h : s.t.curDesc.kind ≠ .none) : (execute s).BusFaultsOnly := by
  unfold execute
  cases hk : s.t.curDesc.kind
  case none => exact absurd hk h
  case ld =>
    show (handleLd s).BusFaultsOnly
    unfold handleLd; dsimp only
    split_ifs <;> first | trivial | exact write16_faults .. | exact busWrite_faults ..
  case ldh =>
    show (handleLdh s).BusFaultsOnly
    unfold handleLdh
    split_ifs
    · exact (busRead_faults ..).bind fun _ _ => trivial
    · exact busWrite_faults ..
  case jp | jr | call =>
    show (handleBranch s).BusFaultsOnly
    unfold handleBranch; dsimp only
    split_ifs <;> first | trivial | exact (push16_faults ..).bind fun _ _ => trivial
  case ret =>
    show (handleRet s).BusFaultsOnly
    unfold handleRet; dsimp only
    split_ifs <;> first | trivial | exact (pop16_faults _).bind fun _ _ => trivial
  case reti => exact (pop16_faults _).bind fun _ _ => trivial
  case rst => exact (push16_faults ..).bind fun _ _ => trivial
  case push => exact push16_faults ..
  case pop => exact (pop16_faults _).bind fun _ _ => trivial
  case inc =>
    show (handleInc s).BusFaultsOnly
    unfold handleInc; dsimp only
    split_ifs <;> first | trivial | exact (busWrite_faults ..).bind fun _ _ => trivial
  all_goals trivial

/-- Taking such a fault. -/
theorem takeFault_faults {α : Type} {info : FaultInfo} {s : State} {r : Fault} (hx : (Res.raise info s : Res α).BusFaultsOnly)
    (h : takeFault info s = .fault r) :
    (∃ addr left, r = .unsupportedRegion addr .read left ∧ ¬ Readable addr ∧ left.status = .faulted r.info) ∨
    (∃ addr b left, r = .unsupportedRegion addr (.write b) left ∧ ¬ Writable addr ∧ left.status = .faulted r.info) := by
  cases info with
  | invalidInstruction => exact hx.elim
  | unsupportedRegion addr access =>
    rw [takeFault_unsupported] at h
    cases h
    cases access with
    | read => exact .inl ⟨addr, _, rfl, hx, State.enterFaulted_status ..⟩
    | write b => exact .inr ⟨addr, b, _, rfl, hx, State.enterFaulted_status ..⟩

/-- An instruction other than INVALID faults only as the bus does. -/
theorem exec_faults {i : Instr} (hi : i.desc.kind ≠ .none) {s : State} {r : Fault} (h : exec i s = .fault r) :
    (∃ addr left, r = .unsupportedRegion addr .read left ∧ ¬ Readable addr ∧ left.status = .faulted r.info) ∨
    (∃ addr b left, r = .unsupportedRegion addr (.write b) left ∧ ¬ Writable addr ∧ left.status = .faulted r.info) := by
  rw [exec_eq_runDesc, runDesc] at h
  have hr := resolve_latch (immOf i) ((latched i s).beginResolve i.desc)
  have hf := (resolve_faults (immOf i) ((latched i s).beginResolve i.desc))
  generalize resolve (immOf i) ((latched i s).beginResolve i.desc) = x at h hr hf
  cases x with
  | raise info s1 => exact takeFault_faults hf h
  | ok y s1 =>
    have hx := execute_faults (s := s1) (by rw [hr.1]; exact hi)
    rw [Res.bind_ok] at h
    generalize execute s1 = x at h hx
    cases x with
    | raise info s2 => exact takeFault_faults hx h
    | ok y s2 => cases h

end Sys2Proof.Machine
end

