-- ==== Sys2Proof/Laws/Fetch.lean ====
section
/-! SUPPORT. What each part of a fetch can do: the opcode, an immediate byte, and the state Resolve starts from. -/

namespace Sys2Proof.Machine

/-- The state after Fetch and Decode of an opcode (40_step_and_addressing.md R98, R99). -/
def afterOpcode (opcode : Byte) (s : State) : State :=
  (((s.note (.read s.pc)).setPc (s.pc + 1)).tick s.params.opcodeFetchTicks).setT
    { Transient.cleared with curOpcode := opcode, curDesc := descOf s.params.leftOut opcode, opcodePc := s.pc }

@[simp] theorem afterOpcode_pc (opcode : Byte) (s : State) : (afterOpcode opcode s).pc = s.pc + 1 := rfl
@[simp] theorem afterOpcode_params (opcode : Byte) (s : State) : (afterOpcode opcode s).params = s.params := by simp [afterOpcode]
@[simp] theorem afterOpcode_desc (opcode : Byte) (s : State) :
    (afterOpcode opcode s).t.curDesc = descOf s.params.leftOut opcode := rfl
@[simp] theorem peek_afterOpcode (opcode : Byte) (s : State) (addr : Word) :
    (afterOpcode opcode s).peek addr = (s.note (.read s.pc)).peek addr := by simp [afterOpcode]

theorem fetchOpcode_ok {s : State} {opcode : Byte} (h : s.peek s.pc = some opcode) :
    ∃ s1, fetchOpcode s = .ok opcode s1 ∧ decodePhase s1 = afterOpcode opcode s ∧ s1.params = s.params := by
  unfold fetchOpcode
  simp only []
  rw [busRead_some (b := opcode) (by rw [peek_setT, State.setT_pc]; exact h), Res.bind_ok, State.setT_pc, State.note_setT]
  refine ⟨_, rfl, ?_, ?_⟩
  · simp [decodePhase, afterOpcode, State.setCurOpcode, State.setT, State.setPc, State.tick]
  · simp

/-- A fetch that faults on the opcode changes the transient state only. -/
theorem fetchOpcode_raise {s : State} (h : s.peek s.pc = none) :
    fetchOpcode s = .raise (.unsupportedRegion s.pc .read) (s.setT { Transient.cleared with opcodePc := s.pc }) := by
  unfold fetchOpcode
  simp only []
  rw [busRead_none (by rw [peek_setT, State.setT_pc]; exact h)]; rfl

theorem imm8_ok {s : State} {b : Byte} (h : s.peek s.pc = some b) : imm8 s = .ok b (((s.note (.read s.pc)).setPc (s.pc + 1)).tick 1) := by
  rw [imm8, busRead_some h, Res.bind_ok, State.note_pc]

theorem imm8_raise {s : State} (h : s.peek s.pc = none) : imm8 s = .raise (.unsupportedRegion s.pc .read) s := by
  rw [imm8, busRead_none h, Res.bind_raise]

/-- Once the opcode is read, the rest of the fetch is its immediate bytes. -/
theorem fetchInstr_opcode {s : State} {opcode : Byte} (h : s.peek s.pc = some opcode) :
    fetchInstr s = (fetchImm (afterOpcode opcode s)).bind fun imm s => .ok (instrOf s.params.leftOut opcode imm) s := by
  obtain ⟨s1, h1, h2, -⟩ := fetchOpcode_ok h
  rw [fetchInstr, h1, Res.bind_ok, h2]

end Sys2Proof.Machine
end

