-- ==== Sys2Proof/Laws/Flags.lean ====
section
/-! SUPPORT. What the flag-setting operation leaves in F when its directives are Booleans, and the spec's half-carry and
carry formulas as arithmetic. -/

namespace Sys2Proof.Machine

/-- Four Booleans (10_state.md R21). -/
theorem flagsAre_ofBool (z n h c : Bool) (s : State) :
    FlagsAre (setFlags (.ofBool z) (.ofBool n) (.ofBool h) (.ofBool c) s).f z n h c := by
  cases z <;> cases n <;> cases h <;> cases c <;>
    exact ⟨by simp [setFlags, flagsAfter, Directive.apply, Directive.ofBool], by simp [setFlags, flagsAfter, Directive.apply, Directive.ofBool],
      by simp [setFlags, flagsAfter, Directive.apply, Directive.ofBool], by simp [setFlags, flagsAfter, Directive.apply, Directive.ofBool],
      by rw [setFlags, State.setF_f, BitVec.and_assoc]; simp⟩

/-- Three Booleans, C kept. -/
theorem flagsAre_keepC (z n h : Bool) (s : State) :
    FlagsAre (setFlags (.ofBool z) (.ofBool n) (.ofBool h) .keep s).f z n h (s.f.getLsbD 4) := by
  cases z <;> cases n <;> cases h <;>
    exact ⟨by simp [setFlags, flagsAfter, Directive.apply, Directive.ofBool], by simp [setFlags, flagsAfter, Directive.apply, Directive.ofBool],
      by simp [setFlags, flagsAfter, Directive.apply, Directive.ofBool], by simp [setFlags, flagsAfter, Directive.apply, Directive.ofBool],
      by rw [setFlags, State.setF_f, BitVec.and_assoc]; simp⟩

/-- The flags of INC by the value before it (44_arith_logic.md R167). -/
theorem flagsAre_inc (v : Byte) (s : State) :
    FlagsAre (incFlags (v + 1) s).f (v == 0xFF) false (v &&& 0x0F == 0x0F) (s.f.getLsbD 4) := by
  have hz : (v + 1 == 0) = (v == 0xFF) := by revert v; decide
  have hh : incHalfCarry (v + 1) = (v &&& 0x0F == 0x0F) := by revert v; decide
  rw [← hz, ← hh]
  exact flagsAre_keepC _ false _ s

/-- The flags of XOR by its operands (R171). -/
theorem flagsAre_xor (a b : Byte) (s : State) : FlagsAre (xorFlags (a ^^^ b) s).f (a == b) false false false := by
  have hz : (a ^^^ b == 0) = (a == b) := by rw [Bool.eq_iff_iff]; simp [BitVec.xor_eq_zero_iff]
  rw [← hz]
  exact flagsAre_ofBool _ false false false s

/-- The half-carry of LD HL,SP+e8 (40_step_and_addressing.md R122). -/
theorem sprHalfCarry_eq (sp : Word) (e : Byte) : sprHalfCarry sp e = decide (16 ≤ sp.toNat % 16 + e.toNat % 16) := by
  have h1 : (sp &&& 0x0F).toNat = sp.toNat % 16 := by rw [BitVec.toNat_and]; exact Nat.and_two_pow_sub_one_eq_mod _ 4
  have h2 : (e &&& 0x0F).toNat = e.toNat % 16 := by rw [BitVec.toNat_and]; exact Nat.and_two_pow_sub_one_eq_mod _ 4
  rw [sprHalfCarry, h1, h2]

/-- Its carry. -/
theorem sprCarry_eq (sp : Word) (e : Byte) : sprCarry sp e = decide (256 ≤ sp.toNat % 256 + e.toNat) := by
  have h1 : (sp &&& 0xFF).toNat = sp.toNat % 256 := by rw [BitVec.toNat_and]; exact Nat.and_two_pow_sub_one_eq_mod _ 8
  rw [sprCarry, h1]

end Sys2Proof.Machine
end

