-- ==== Sys2Proof/Laws/Results.lean ====
section
/-! SUPPORT. What each shape of instruction answers: its descriptor run by the shared resolver and handlers, in terms of the
bus, the stack helper and the register file. The transient state is gone from every answer. -/

namespace Sys2Proof.Machine

variable (s : State) (imm : Word) (cond : Cond) (p : Option Word) (r1 r2 : Reg)

/-! ## The transient state does not last: it commutes with every update, and the end of a step drops it -/

theorem setFetched_eq (v : Word) : s.setFetched v = s.setT { s.t with fetched := v } := rfl
theorem setMemDest_eq (a : Word) : s.setMemDest a = s.setT { s.t with destIsMem := true, memDest := a } := rfl
theorem beginResolve_eq (d : Desc) : s.beginResolve d =
    s.setT { s.t with curDesc := d, fetched := 0, destIsMem := false, memDest := 0, sprH := false, sprC := false } := rfl

@[simp] theorem setT_setT (t t' : Transient) : (s.setT t).setT t' = s.setT t' := rfl
@[simp] theorem discard_setT (t : Transient) : (s.setT t).discard = s.discard := rfl
@[simp] theorem enterFaulted_setT (t : Transient) (info : FaultInfo) : (s.setT t).enterFaulted info = s.enterFaulted info := rfl
@[simp] theorem tick_setT (t : Transient) (n : Nat) : (s.setT t).tick n = (s.tick n).setT t := rfl
@[simp] theorem setPc_setT (t : Transient) (v : Word) : (s.setT t).setPc v = (s.setPc v).setT t := rfl
@[simp] theorem setSp_setT (t : Transient) (v : Word) : (s.setT t).setSp v = (s.setSp v).setT t := rfl
@[simp] theorem setF_setT (t : Transient) (v : Byte) : (s.setT t).setF v = (s.setF v).setT t := rfl
@[simp] theorem setIme_setT (t : Transient) (v : Bool) : (s.setT t).setIme v = (s.setIme v).setT t := rfl
@[simp] theorem setFlags_setT (t : Transient) (z n h c : Directive) : setFlags z n h c (s.setT t) = (setFlags z n h c s).setT t := rfl
@[simp] theorem write_setT (t : Transient) (r : Reg) (v : Word) : (s.setT t).write r v = (s.write r v).setT t := by cases r <;> rfl
@[simp] theorem place_setT (t : Transient) (a : Word) (b : Byte) : (s.setT t).place a b = (s.place a b).setT t := by
  by_cases ho : s.OpenAt a
  · rw [place_open ho, place_open (s := s.setT t) ho, State.note_setT]
  · rw [place_eq, place_eq, if_neg ho, if_neg (show ¬ (s.setT t).OpenAt a from ho)]; split_ifs <;> rfl
@[simp] theorem notePop_setT (t : Transient) : (s.setT t).notePop = s.notePop.setT t := by simp [State.notePop]
@[simp] theorem pushed16_setT (t : Transient) (v : Word) : pushed16 v (s.setT t) = (pushed16 v s).setT t := by
  simp [pushed16, pushed8]
@[simp] theorem ind_setT (t : Transient) (r : Reg) : ind r (s.setT t) = ind r s := by simp [ind]

/-- What a bus write at the end of a step answers. -/
theorem outcome_busWrite (a : Word) (b : Byte) : (busWrite a b s).outcome =
    if Writable a then .next (s.place a b).discard
    else .fault (.unsupportedRegion a (.write b) (s.enterFaulted (.unsupportedRegion a (.write b)))) := by
  by_cases h : Writable a
  · rw [busWrite_ok h, if_pos h]; rfl
  · rw [busWrite_raise h, if_neg h]; rfl

/-- What a bus read of one byte, followed by a register write, answers. -/
theorem outcome_busRead (a : Word) (k : Byte → State → State) : ((busRead a s).bind fun b s => .ok () (k b s)).outcome =
    match s.peek a with
    | some b => .next (k b (s.note (.read a))).discard
    | none => .fault (.unsupportedRegion a .read (s.enterFaulted (.unsupportedRegion a .read))) := by
  rw [busRead_eq]; cases s.peek a <;> rfl

/-! ## Loads that touch no memory -/

/-- LD r,r' and LD SP,HL. -/
theorem run_ld_rR : runDesc ⟨.ld, .rR, r1, r2, cond, p⟩ imm s = .next (s.write r1 (s.read r2)).discard := by
  simp [runDesc, resolve, execute, handleLd, beginResolve_eq, setFetched_eq]

/-- LD r,d8. -/
theorem run_ld_rD8 : runDesc ⟨.ld, .rD8, r1, r2, cond, p⟩ imm s = .next (s.write r1 imm).discard := by
  simp [runDesc, resolve, execute, handleLd, beginResolve_eq, setFetched_eq]

/-- LD rr,d16. -/
theorem run_ld_rD16 : runDesc ⟨.ld, .rD16, r1, r2, cond, p⟩ imm s = .next (s.write r1 imm).discard := by
  simp [runDesc, resolve, execute, handleLd, beginResolve_eq, setFetched_eq]

/-- LD HL,SP+e8. -/
theorem run_ld_hlSpr : runDesc ⟨.ld, .hlSpr, r1, r2, cond, p⟩ imm s =
    .next ((setFlags .force0 .force0 (.ofBool (sprHalfCarry s.sp (loByte imm))) (.ofBool (sprCarry s.sp (loByte imm))) s).write .hl
      (s.sp + sext (loByte imm))).discard := by
  simp [runDesc, resolve, execute, handleLd, beginResolve_eq, setFlags]

/-! ## Stores -/

theorem run_ld_mrR (h : r2.is16 = false) : runDesc ⟨.ld, .mrR, r1, r2, cond, p⟩ imm s =
    (busWrite (ind r1 s) (loByte (s.read r2)) s).outcome := by
  simp [runDesc, resolve, execute, handleLd, beginResolve_eq, setFetched_eq, setMemDest_eq, h, outcome_busWrite]

theorem run_ld_mrD8 (h : r2.is16 = false) : runDesc ⟨.ld, .mrD8, r1, r2, cond, p⟩ imm s =
    (busWrite (s.read .hl) (loByte imm) s).outcome := by
  simp [runDesc, resolve, execute, handleLd, beginResolve_eq, setFetched_eq, setMemDest_eq, h, outcome_busWrite]

theorem run_ld_a16R (h : r2.is16 = false) : runDesc ⟨.ld, .a16R, r1, r2, cond, p⟩ imm s =
    (busWrite imm (loByte (s.read r2)) s).outcome := by
  simp [runDesc, resolve, execute, handleLd, beginResolve_eq, setFetched_eq, setMemDest_eq, h, outcome_busWrite]

theorem run_ldh_store (h : r1 ≠ .a) : runDesc ⟨.ldh, .a8R, r1, r2, cond, p⟩ imm s =
    (busWrite (highPage (loByte imm)) s.a s).outcome := by
  simp [runDesc, resolve, execute, handleLdh, beginResolve_eq, setFetched_eq, setMemDest_eq, h, outcome_busWrite]

theorem run_ld_hliR (h : r2.is16 = false) : runDesc ⟨.ld, .hliR, r1, r2, cond, p⟩ imm s =
    (busWrite (s.read .hl) (loByte (s.read r2)) (s.write .hl (s.read .hl + 1))).outcome := by
  simp [runDesc, resolve, execute, handleLd, beginResolve_eq, setFetched_eq, setMemDest_eq, h, outcome_busWrite]

theorem run_ld_hldR (h : r2.is16 = false) : runDesc ⟨.ld, .hldR, r1, r2, cond, p⟩ imm s =
    (busWrite (s.read .hl) (loByte (s.read r2)) (s.write .hl (s.read .hl - 1))).outcome := by
  simp [runDesc, resolve, execute, handleLd, beginResolve_eq, setFetched_eq, setMemDest_eq, h, outcome_busWrite]

/-- LD (a16),SP, in its three cases. -/
theorem run_ld_a16SP (h : r2.is16 = true) : runDesc ⟨.ld, .a16R, r1, r2, cond, p⟩ imm s =
    (write16 imm (s.read r2) (s.tick 1)).outcome := by
  simp only [runDesc, resolve, execute, handleLd, beginResolve_eq, setFetched_eq, setMemDest_eq, h, State.setT_t, Res.bind_ok, setT_setT,
    reduceCtorEq, if_false, if_true, tick_setT, read_setT]
  by_cases h1 : Writable (imm + 1)
  · by_cases h2 : Writable imm
    · rw [write16_ok _ h1 h2, write16_ok _ h1 h2]; simp only [place_setT, Res.outcome_ok, discard_setT]
    · rw [write16_raise_low _ h1 h2, write16_raise_low _ h1 h2]
      simp only [place_setT, Res.outcome_raise, takeFault_unsupported, enterFaulted_setT]
  · rw [write16_raise_high _ h1, write16_raise_high _ h1]
    simp only [Res.outcome_raise, takeFault_unsupported, enterFaulted_setT]

/-! ## Loads from memory -/

theorem run_ld_rMr : runDesc ⟨.ld, .rMr, r1, r2, cond, p⟩ imm s =
    ((busRead (ind r2 s) s).bind fun b s => .ok () (s.write r1 (zext b))).outcome := by
  rw [busRead_eq]
  simp only [runDesc, resolve, execute, handleLd, beginResolve_eq, setFetched_eq, fetchFrom, busRead_eq, State.setT_t, peek_setT, ind_setT]
  split <;> simp

theorem run_ld_rA16 : runDesc ⟨.ld, .rA16, r1, r2, cond, p⟩ imm s =
    ((busRead imm s).bind fun b s => .ok () (s.write r1 (zext b))).outcome := by
  rw [busRead_eq]
  simp only [runDesc, resolve, execute, handleLd, beginResolve_eq, setFetched_eq, fetchFrom, busRead_eq, State.setT_t, peek_setT]
  split <;> simp

theorem run_ldh_load : runDesc ⟨.ldh, .rA8, .a, r2, cond, p⟩ imm s =
    ((busRead (highPage (loByte imm)) s).bind fun b s => .ok () (s.write .a (zext b))).outcome := by
  rw [busRead_eq]
  simp only [runDesc, resolve, execute, handleLdh, beginResolve_eq, setFetched_eq, busRead_eq, State.setT_t, Res.bind_ok, setT_setT,
    peek_setT, if_true]
  split <;> simp

theorem run_ld_rHli : runDesc ⟨.ld, .rHli, r1, r2, cond, p⟩ imm s =
    ((busRead (s.read .hl) s).bind fun b s => .ok () ((s.write .hl (s.read .hl + 1)).write r1 (zext b))).outcome := by
  rw [busRead_eq]
  simp only [runDesc, resolve, execute, handleLd, beginResolve_eq, setFetched_eq, fetchFrom, busRead_eq, State.setT_t, peek_setT, read_setT]
  split <;> simp

theorem run_ld_rHld : runDesc ⟨.ld, .rHld, r1, r2, cond, p⟩ imm s =
    ((busRead (s.read .hl) s).bind fun b s => .ok () ((s.write .hl (s.read .hl - 1)).write r1 (zext b))).outcome := by
  rw [busRead_eq]
  simp only [runDesc, resolve, execute, handleLd, beginResolve_eq, setFetched_eq, fetchFrom, busRead_eq, State.setT_t, peek_setT, read_setT]
  split <;> simp

/-! ## Control transfer and the stack -/

/-- JP a16 and JP cc,a16. -/
theorem run_jp_d16 : runDesc ⟨.jp, .d16, r1, r2, cond, p⟩ imm s =
    .next (if cond.holds s.f then s.setPc imm else s).discard := by
  by_cases h : cond.holds s.f = true <;> simp [runDesc, resolve, execute, handleBranch, beginResolve_eq, setFetched_eq, h]

/-- JP HL. -/
theorem run_jp_r : runDesc ⟨.jp, .r, r1, r2, .none, p⟩ imm s = .next (s.setPc (s.read r1)).discard := by
  simp [runDesc, resolve, execute, handleBranch, beginResolve_eq, setFetched_eq, Cond.holds]

/-- JR e8 and JR cc,e8. -/
theorem run_jr : runDesc ⟨.jr, .d8, r1, r2, cond, p⟩ imm s =
    .next (if cond.holds s.f then s.setPc (s.pc + sext (loByte imm)) else s).discard := by
  by_cases h : cond.holds s.f = true <;> simp [runDesc, resolve, execute, handleBranch, beginResolve_eq, setFetched_eq, h]

/-- Every outcome of a push16 followed by an update, whatever the transient state. -/
theorem push16_outcome_setT (v : Word) (t : Transient) (k : State → State) (hk : ∀ s, (k (s.setT t)).discard = (k s).discard) :
    ((push16 v (s.setT t)).bind fun _ s => .ok () (k s)).outcome = ((push16 v s).bind fun _ s => .ok () (k s)).outcome := by
  by_cases h1 : Writable (s.sp - 1)
  · by_cases h2 : Writable (s.sp - 2)
    · rw [push16_ok s h1 h2, push16_ok (s.setT t) h1 h2, pushed16_setT]; simp only [Res.bind_ok, Res.outcome_ok, hk]
    · rw [push16_raise_low s h1 h2, push16_raise_low (s.setT t) h1 h2]
      simp only [pushed8, State.setT_sp, setSp_setT, place_setT, Res.bind_raise, Res.outcome_raise, takeFault_unsupported, enterFaulted_setT]
  · rw [push16_raise_high s h1, push16_raise_high (s.setT t) h1]
    simp only [State.setT_sp, setSp_setT, Res.bind_raise, Res.outcome_raise, takeFault_unsupported, enterFaulted_setT]

/-- Every outcome of a pop16 followed by an update, whatever the transient state. -/
theorem pop16_outcome_setT (t : Transient) (k : Word → State → State) (hk : ∀ v s, (k v (s.setT t)).discard = (k v s).discard) :
    ((pop16 (s.setT t)).bind fun v s => .ok () (k v s)).outcome = ((pop16 s).bind fun v s => .ok () (k v s)).outcome := by
  rcases pop16_cases s with h1 | ⟨lo, h1, h2⟩ | ⟨lo, hi, h1, h2⟩
  · rw [pop16_raise_low s h1, pop16_raise_low (s.setT t) (by rwa [peek_setT, State.setT_sp])]
    simp only [State.setT_sp, Res.bind_raise, Res.outcome_raise, takeFault_unsupported, enterFaulted_setT]
  · rw [pop16_raise_high s h1 h2, pop16_raise_high (s.setT t) (lo := lo) (by rwa [peek_setT, State.setT_sp]) (by rwa [peek_setT, State.setT_sp])]
    simp only [State.setT_sp, State.note_setT, setSp_setT, Res.bind_raise, Res.outcome_raise, takeFault_unsupported, enterFaulted_setT]
  · rw [pop16_ok s h1 h2, pop16_ok (s.setT t) (lo := lo) (hi := hi) (by rwa [peek_setT, State.setT_sp])
      (by rwa [State.note_setT, peek_setT, State.setT_sp])]
    simp only [State.setT_sp, notePop_setT, setSp_setT, Res.bind_ok, Res.outcome_ok, hk]

/-- CALL a16 and CALL cc,a16. -/
theorem run_call : runDesc ⟨.call, .d16, r1, r2, cond, p⟩ imm s =
    if cond.holds s.f then ((push16 s.pc s).bind fun _ s => .ok () (s.setPc imm)).outcome else .next s.discard := by
  simp only [runDesc, resolve, execute, handleBranch, beginResolve_eq, setFetched_eq, State.setT_t, Res.bind_ok, setT_setT, State.setT_f]
  split
  · simp only [if_true]; exact push16_outcome_setT s s.pc _ _ fun _ => rfl
  · rfl

/-- RET and RET cc. -/
theorem run_ret : runDesc ⟨.ret, .imp, r1, r2, cond, p⟩ imm s =
    let s' := if cond = .none then s else s.tick 1
    if cond.holds s.f then ((pop16 s').bind fun v s => .ok () (s.setPc v)).outcome else .next s'.discard := by
  have hs : ∀ s' : State, ∀ t : Transient, (if cond.holds s.f then (pop16 (s'.setT t)).bind fun v s => Res.ok () (s.setPc v) else .ok () (s'.setT t)).outcome =
      if cond.holds s.f then ((pop16 s').bind fun v s => Res.ok () (s.setPc v)).outcome else .next s'.discard := by
    intro s' t
    split
    · exact pop16_outcome_setT s' t (fun v s => s.setPc v) fun _ _ => rfl
    · rfl
  cases cond
  · exact hs s _
  all_goals exact hs (s.tick 1) _

/-- RETI. -/
theorem run_reti : runDesc ⟨.reti, .imp, r1, r2, cond, p⟩ imm s =
    ((pop16 (s.setIme true)).bind fun v s => .ok () (s.setPc v)).outcome := by
  simp only [runDesc, resolve, execute, handleReti, beginResolve_eq, State.setT_t, Res.bind_ok, setIme_setT]
  exact pop16_outcome_setT _ _ _ fun _ _ => rfl

/-- RST n. -/
theorem run_rst (n : Word) : runDesc ⟨.rst, .imp, r1, r2, cond, some n⟩ imm s =
    ((push16 s.pc s).bind fun _ s => .ok () (s.setPc n)).outcome := by
  have key : ∀ t : Transient, t.curDesc.param = some n → ((push16 s.pc (s.setT t)).bind fun _ s' => .ok () (s'.setPc (s'.t.curDesc.param.getD 0))).outcome =
      ((push16 s.pc (s.setT t)).bind fun _ s' => .ok () (s'.setPc n)).outcome := by
    intro t ht
    by_cases h1 : Writable (s.sp - 1)
    · by_cases h2 : Writable (s.sp - 2)
      · rw [push16_ok (s.setT t) h1 h2, pushed16_setT]; simp only [Res.bind_ok, State.setT_t, ht, Option.getD_some]
      · rw [push16_raise_low (s.setT t) h1 h2]; rfl
    · rw [push16_raise_high (s.setT t) h1]; rfl
  simp only [runDesc, resolve, execute, handleRst, beginResolve_eq, State.setT_t, Res.bind_ok, State.setT_pc]
  rw [key _ rfl]
  exact push16_outcome_setT _ _ _ _ fun _ => rfl

/-- PUSH rr. -/
theorem run_push : runDesc ⟨.push, .r, r1, r2, cond, p⟩ imm s = (push16 (s.read r1) s).outcome := by
  have hb : ∀ r : Res Unit, r.outcome = (r.bind fun _ s => .ok () s).outcome := fun r => by cases r <;> rfl
  simp only [runDesc, resolve, execute, handlePush, beginResolve_eq, setFetched_eq, State.setT_t, Res.bind_ok, setT_setT, read_setT]
  rw [hb, hb (push16 _ s)]
  exact push16_outcome_setT _ _ _ _ fun _ => rfl

/-- POP rr. -/
theorem run_pop : runDesc ⟨.pop, .imp, r1, r2, cond, p⟩ imm s =
    ((pop16 s).bind fun v s => .ok () (s.write r1 v)).outcome := by
  have key : ∀ t : Transient, t.curDesc.r1 = r1 → ((pop16 (s.setT t)).bind fun v s => .ok () (s.write s.t.curDesc.r1 v)).outcome =
      ((pop16 (s.setT t)).bind fun v s => .ok () (s.write r1 v)).outcome := by
    intro t ht
    rcases pop16_cases (s.setT t) with h1 | ⟨lo, h1, h2⟩ | ⟨lo, hi, h1, h2⟩
    · rw [pop16_raise_low _ h1]; rfl
    · rw [pop16_raise_high _ h1 h2]; rfl
    · rw [pop16_ok _ h1 h2]; simp only [Res.bind_ok, State.setSp_t, notePop_setT, State.setT_t, ht]
  simp only [runDesc, resolve, execute, handlePop, beginResolve_eq, State.setT_t, Res.bind_ok]
  rw [key _ rfl]
  exact pop16_outcome_setT _ _ _ fun v s => by rw [write_setT, discard_setT]

/-! ## Increment, exclusive-or, system -/

/-- INC r. -/
theorem run_inc_r8 (h : r1 ≠ .bc ∧ r1 ≠ .de ∧ r1 ≠ .hl ∧ r1 ≠ .sp) : runDesc ⟨.inc, .r, r1, r2, cond, p⟩ imm s =
    .next (incFlags (loByte (s.read r1) + 1) (s.write r1 (zext (loByte (s.read r1) + 1)))).discard := by
  simp [runDesc, resolve, execute, handleInc, beginResolve_eq, setFetched_eq, incFlags, h]

/-- INC rr. -/
theorem run_inc_r16 (h : r1 = .bc ∨ r1 = .de ∨ r1 = .hl ∨ r1 = .sp) : runDesc ⟨.inc, .r, r1, r2, cond, p⟩ imm s =
    .next ((s.tick 1).write r1 (s.read r1 + 1)).discard := by
  simp [runDesc, resolve, execute, handleInc, beginResolve_eq, setFetched_eq, h]

/-- INC (HL). -/
theorem run_inc_mr : runDesc ⟨.inc, .mr, r1, r2, cond, p⟩ imm s =
    ((busRead (s.read .hl) s).bind fun v s => (busWrite (s.read .hl) (v + 1) s).bind fun _ s => .ok () (incFlags (v + 1) s)).outcome := by
  rw [busRead_eq]
  simp only [runDesc, resolve, execute, handleInc, beginResolve_eq, setFetched_eq, setMemDest_eq, fetchFrom, busRead_eq, State.setT_t, peek_setT, read_setT]
  split
  · simp only [Res.bind_ok, State.note_setT, State.read_note, setT_setT, State.setT_t, if_true, loByte_zext]
    by_cases h : Writable (s.read .hl)
    · rw [busWrite_ok h, busWrite_ok h, place_setT]; rfl
    · rw [busWrite_raise h, busWrite_raise h]; rfl
  · rfl

/-- XOR r. -/
theorem run_xor_rR : runDesc ⟨.xor, .rR, r1, r2, cond, p⟩ imm s =
    .next (xorFlags (s.a ^^^ loByte (s.read r2)) (s.write .a (zext (s.a ^^^ loByte (s.read r2))))).discard := by
  simp [runDesc, resolve, execute, handleXor, beginResolve_eq, setFetched_eq, xorFlags]

/-- XOR d8. -/
theorem run_xor_rD8 : runDesc ⟨.xor, .rD8, r1, r2, cond, p⟩ imm s =
    .next (xorFlags (s.a ^^^ loByte imm) (s.write .a (zext (s.a ^^^ loByte imm)))).discard := by
  simp [runDesc, resolve, execute, handleXor, beginResolve_eq, setFetched_eq, xorFlags]

/-- XOR (HL). -/
theorem run_xor_rMr : runDesc ⟨.xor, .rMr, r1, r2, cond, p⟩ imm s =
    ((busRead (ind r2 s) s).bind fun v s => .ok () (xorFlags (s.a ^^^ v) (s.write .a (zext (s.a ^^^ v))))).outcome := by
  rw [busRead_eq]
  simp only [runDesc, resolve, execute, handleXor, beginResolve_eq, setFetched_eq, fetchFrom, busRead_eq, State.setT_t, peek_setT, ind_setT]
  split
  · simp [xorFlags]
  · rfl

end Sys2Proof.Machine
end

