-- ==== Sys2Proof/Laws/Frame.lean ====
section
/-! SUPPORT. The frame of each update: what `Changes` holds of a register write, a bus write, a push and a pop, and how the
end of a step and the flags add to it. -/

namespace Sys2Proof

/-- The registers of `frameRegs` that a write of a designator can change. -/
def Reg.parts : Reg → List Reg
  | .af => [.a, .f]
  | .bc => [.b, .c]
  | .de => [.d, .e]
  | .hl => [.h, .l]
  | .a => [.a] | .f => [.f] | .b => [.b] | .c => [.c] | .d => [.d] | .e => [.e] | .h => [.h] | .l => [.l] | .sp => [.sp]
  | .pc | .none => []

end Sys2Proof

namespace Sys2Proof.Machine

variable {s s' : State} {regs : List Reg} {addrs : List Word} {pc : Word} {n : Nat}

theorem read_write_ne (r dst : Reg) (v : Word) (hr : r ∈ frameRegs) (h : r ∉ dst.parts) : (s.write dst v).read r = s.read r := by
  simp only [frameRegs, List.mem_cons, List.not_mem_nil, or_false] at hr
  rcases hr with rfl | rfl | rfl | rfl | rfl | rfl | rfl | rfl | rfl <;> cases dst <;>
    first
      | rfl
      | exact absurd (by decide) h

/-- Nothing changes. -/
theorem Changes.refl : Changes [] [] s.pc 0 s s := ⟨fun _ _ _ => rfl, fun _ _ => rfl, rfl, rfl, rfl, rfl, rfl, rfl, rfl⟩

/-- A write of a register other than PC. -/
theorem Changes.write (dst : Reg) (v : Word) (hd : dst ≠ .pc) (h : Changes regs addrs pc n s s') :
    Changes (dst.parts ++ regs) addrs pc n s (s'.write dst v) := by
  refine ⟨fun r hr hn => ?_, fun a ha => by rw [peek_write]; exact h.mem_kept a ha, ?_, ?_, ?_, ?_, ?_, ?_, ?_⟩
  · rw [List.mem_append, not_or] at hn; rw [read_write_ne r dst v hr hn.1]; exact h.regs_kept r hr hn.2
  · rw [← h.pc_is]; cases dst <;> first | rfl | exact absurd rfl hd
  all_goals simp only [State.write_ticks, State.write_ime, State.write_halted, State.write_status, State.write_params, State.write_cartLog]
  exacts [h.ticks_are, h.ime_kept, h.halted_kept, h.status_kept, h.params_kept, h.cart_kept]

/-- A write of F. -/
theorem Changes.setF (v : Byte) (h : Changes regs addrs pc n s s') : Changes (.f :: regs) addrs pc n s (s'.setF v) := by
  refine ⟨fun r hr hn => ?_, fun a ha => by rw [peek_setF]; exact h.mem_kept a ha, h.pc_is, h.ticks_are, h.ime_kept, h.halted_kept, h.status_kept, h.params_kept, h.cart_kept⟩
  rw [List.mem_cons, not_or] at hn
  rw [← h.regs_kept r hr hn.2]
  have := read_write_ne (s := s') r .f (zext v) hr (by simpa [Reg.parts] using hn.1)
  rwa [State.write.eq_def, loByte_zext] at this

/-- Setting flags. -/
theorem Changes.xorFlags (v : Byte) (h : Changes regs addrs pc n s s') : Changes (.f :: regs) addrs pc n s (xorFlags v s') := h.setF _

theorem Changes.incFlags (v : Byte) (h : Changes regs addrs pc n s s') : Changes (.f :: regs) addrs pc n s (incFlags v s') := h.setF _

/-- A write of SP. -/
theorem Changes.setSp (v : Word) (h : Changes regs addrs pc n s s') : Changes (.sp :: regs) addrs pc n s (s'.setSp v) :=
  h.write .sp v (by decide)

/-- A write of PC. -/
theorem Changes.setPc (v : Word) (h : Changes regs addrs pc n s s') : Changes regs addrs v n s (s'.setPc v) := by
  refine ⟨fun r hr hn => ?_, fun a ha => by rw [peek_setPc]; exact h.mem_kept a ha, rfl, h.ticks_are, h.ime_kept, h.halted_kept, h.status_kept, h.params_kept, h.cart_kept⟩
  rw [← h.regs_kept r hr hn]
  cases r <;> first | rfl | simp [frameRegs] at hr

/-- A tick. -/
theorem Changes.tick (k : Nat) (h : Changes regs addrs pc n s s') : Changes regs addrs pc (n + k) s (s'.tick k) :=
  ⟨fun r hr hn => by rw [read_tick]; exact h.regs_kept r hr hn, fun a ha => by rw [peek_tick]; exact h.mem_kept a ha, h.pc_is,
    by rw [State.tick_ticks, h.ticks_are, Nat.add_assoc], h.ime_kept, h.halted_kept, h.status_kept, h.params_kept, h.cart_kept⟩

/-- A frame may name more than it needs. -/
theorem Changes.mono {regs' : List Reg} {addrs' : List Word} (h : Changes regs addrs pc n s s') (hr : ∀ r ∈ regs, r ∈ regs')
    (ha : ∀ a ∈ addrs, a ∈ addrs') : Changes regs' addrs' pc n s s' :=
  ⟨fun r hf hn => h.regs_kept r hf fun hc => hn (hr r hc), fun a hn => h.mem_kept a fun hc => hn (ha a hc),
    h.pc_is, h.ticks_are, h.ime_kept, h.halted_kept, h.status_kept, h.params_kept, h.cart_kept⟩

/-- The same accesses noted in both states. -/
theorem Changes.note (x : Config.CartAccess) (h : Changes regs addrs pc n s s') : Changes regs addrs pc n (s.note x) (s'.note x) := by
  have ho : ∀ a, s'.OpenAt a ↔ s.OpenAt a := fun a => by rw [State.OpenAt, h.params_kept]
  have hl : (s'.note x).cartLog = (s.note x).cartLog := by
    rw [State.note_cartLog, State.note_cartLog, h.cart_kept, if_congr (ho x.addr) rfl rfl]
  refine ⟨fun r hr hn => by simpa using h.regs_kept r hr hn, fun a ha => ?_, by simpa using h.pc_is, by simpa using h.ticks_are,
    by simpa using h.ime_kept, by simpa using h.halted_kept, by simpa using h.status_kept, by simpa using h.params_kept, hl⟩
  by_cases hoa : s.OpenAt a
  · obtain ⟨id, hc⟩ := openAt_cart hoa
    rw [peek_open (s := s'.note x) (by rw [State.note_params, h.params_kept, hc]) hoa.2,
      peek_open (s := s.note x) (by rw [State.note_params, hc]) hoa.2, hl]
  · rw [peek_note hoa, peek_note (by rwa [ho])]; exact h.mem_kept a ha

/-- A bus write that completes. -/
theorem Changes.place {a : Word} (ha : Writable a) (b : Byte) (h : Changes regs addrs pc n s s') :
    Changes regs (a :: addrs) pc n (s.note (.write a b)) (s'.place a b) := by
  by_cases ho : s'.OpenAt a
  · rw [place_open ho]; exact (h.note _).mono (fun _ => id) fun _ => List.mem_cons_of_mem _
  · have hs : s.note (.write a b) = s := State.note_not_open s (by rwa [State.OpenAt, h.params_kept] at ho)
    rw [hs]
    refine ⟨fun r hr hn => by rw [place_read]; exact h.regs_kept r hr hn, fun x hx => ?_, ?_, ?_, ?_, ?_, ?_, ?_, ?_⟩
    · rw [List.mem_cons, not_or] at hx; rw [peek_place ha ho, if_neg hx.1]; exact h.mem_kept x hx.2
    all_goals simp only [place_pc, place_ticks, place_ime, place_halted, place_status, place_params, place_cartLog ho]
    exacts [h.pc_is, h.ticks_are, h.ime_kept, h.halted_kept, h.status_kept, h.params_kept, h.cart_kept]

/-- The end of a step. -/
theorem Changes.discard (h : Changes regs addrs pc n s s') : Changes regs addrs pc n s s'.discard :=
  ⟨fun r hr hn => by rw [read_discard]; exact h.regs_kept r hr hn, fun a ha => by rw [peek_discard]; exact h.mem_kept a ha,
    h.pc_is, h.ticks_are, h.ime_kept, h.halted_kept, h.status_kept, h.params_kept, h.cart_kept⟩

/-- A push of one word that completes. -/
theorem Changes.pushed16 (v : Word) (h1 : Writable (s.sp - 1)) (h2 : Writable (s.sp - 2)) :
    Changes [.sp] [s.sp - 1, s.sp - 2] s.pc 0 (s.notePush v) (pushed16 v s) := by
  have h2' : Writable ((pushed8 (hiByte v) s).sp - 1) := by rwa [pushed8_sp, sub_one_sub_one]
  have h := ((((Changes.refl (s := s)).setSp (s.sp - 1)).place h1 (hiByte v)).setSp ((pushed8 (hiByte v) s).sp - 1)).place h2' (loByte v)
  rw [pushed8_sp, sub_one_sub_one] at h
  rw [Machine.pushed16, pushed8, pushed8_sp, sub_one_sub_one]
  exact h.mono (regs' := [.sp]) (addrs' := [s.sp - 1, s.sp - 2]) (by simp) (by simp [or_comm])

end Sys2Proof.Machine
end

