-- ==== Sys2Proof/Laws/Step.lean ====
section
/-! SUPPORT. What the fetch phases and a step can do. -/

namespace Sys2Proof.Machine

variable {P : State → Prop}

theorem Stable.imm8 (hP : Stable P) {s : State} (h : P s) : (imm8 s).Ends P :=
  (hP.busRead h).bind fun _ _ h => hP.tick _ _ (hP.setPc _ _ h)

theorem Stable.fetchInstr (hP : Stable P) {s : State} (h : P s) : (fetchInstr s).Ends P := by
  refine Res.Ends.bind ((hP.busRead (hP.setT _ _ h)).bind fun _ _ h => hP.tick _ _ (hP.setPc _ _ (hP.setT _ _ h))) ?_
  intro opcode s h
  have hd : P (decodePhase s) := hP.setT _ _ h
  refine Res.Ends.bind ?_ fun _ _ h => h
  unfold fetchImm
  split
  · exact hd
  · exact (hP.imm8 hd).bind fun _ _ h => h
  · exact (hP.imm8 hd).bind fun _ _ h => (hP.imm8 h).bind fun _ _ h => h

/-- A step that completes was a halted step, or fetched an instruction and ran it. -/
theorem step_next {s s' : State} (h : step s = .next s') :
    s.status = .running ∧
      ((s.halted = true ∧ s' = s.tick Config.haltedStepTicks) ∨
        (s.halted = false ∧ ∃ i s1, fetchInstr s = .ok i s1 ∧ exec i s1 = .next s')) := by
  unfold step at h
  split at h
  · cases h
  · next hs =>
    refine ⟨hs, ?_⟩
    split at h
    · next hh => cases h; exact .inl ⟨hh, rfl⟩
    · next hh =>
      refine .inr ⟨by simpa using hh, ?_⟩
      split at h
      · next i s1 hf => exact ⟨i, s1, hf, h⟩
      · next info s1 hf => cases info <;> cases h

/-- A step of a running core that is not halted is its fetch, then its instruction or the fetch's fault. -/
theorem step_running {s : State} (hs : s.status = .running) (hh : s.halted = false) :
    step s = match fetchInstr s with
      | .ok i s => exec i s
      | .raise info s => takeFault info s := by
  unfold step; rw [hs]
  exact if_neg (by rw [hh]; decide)

/-- A step keeps a stable property that does not speak of IME. -/
theorem step_stable (hP : Stable P) (hime : ∀ b s, P s → P (s.setIme b)) {s s' : State} (h : P s) (hn : step s = .next s') :
    P s' := by
  obtain ⟨-, ⟨-, rfl⟩ | ⟨-, i, s1, hf, hx⟩⟩ := step_next hn
  · exact hP.tick _ _ h
  · have h1 := hP.fetchInstr h
    rw [hf] at h1
    exact ((exec_stable hP h1 fun _ => hime).1 s' hx).1

end Sys2Proof.Machine
end

