-- ==== Sys2Proof/Machine/Driver.lean ====
section
/-! DEFINITION. The driver's side of the core (40_step_and_addressing.md R123, R124). No step depends on it. -/

namespace Sys2Proof.Machine

/-- One turn of the driver: a pause is the absence of a step (R123). -/
def driverCall (paused : Bool) (s : State) : Result := if paused then .next s else step s

/-- Run to the first step boundary where PC is `endPc` and the status is Running, for at most `fuel` steps (R124). The
answer says whether that boundary was reached; a fault ends the run. -/
def runToEnd (endPc : Word) : Nat → State → Host.Outcome (Bool × State) Fault Refusal
  | 0, s => .next (decide (s.pc = endPc ∧ s.status = .running), s)
  | fuel + 1, s =>
    if s.pc = endPc ∧ s.status = .running then .next (true, s)
    else
      match step s with
      | .next s => runToEnd endPc fuel s
      | .fault r => .fault r
      | .refused r => .refused r

end Sys2Proof.Machine
end

