-- ==== Sys2Proof/Tests/Slice0.lean ====
section
/-! SUPPORT. Tests: what the well-formedness check refuses, decodings of words written out from the opcode table, one step of
each form with the values of the spec's own examples, and for each statement with hypotheses a state that meets them. -/

namespace Sys2Proof.Tests

open Sys2Proof Sys2Proof.Machine

/-! ## Helpers -/

/-- The state after reset with bytes at `addr` and PC there. -/
def program (addr : Word) (bytes : List Byte) (s : State) : State := (s.placeAll addr bytes).setPc addr

/-- The next state of one step, if it completes. -/
def next (s : State) : Option State :=
  match step s with
  | .next s' => some s'
  | .fault _ | .refused _ => none

/-- The fault of one step, if it faults. -/
def faulted (s : State) : Option Fault :=
  match step s with
  | .fault r => some r
  | .next _ | .refused _ => none

theorem exists_next {s : State} (h : (next s).isSome = true) : ∃ s', step s = .next s' := by
  unfold next at h; split at h
  · exact ⟨_, by assumption⟩
  all_goals cases h

theorem exists_fault {s : State} (h : (faulted s).isSome = true) : ∃ r, step s = .fault r := by
  unfold faulted at h; split at h
  · exact ⟨_, by assumption⟩
  all_goals cases h

/-- The next state of one instruction, if it completes. -/
def execNext (i : Instr) (s : State) : Option State :=
  match exec i s with
  | .next s' => some s'
  | .fault _ | .refused _ => none

theorem exists_exec {i : Instr} {s : State} (h : (execNext i s).isSome = true) : ∃ s', exec i s = .next s' := by
  unfold execNext at h; split at h
  · exact ⟨_, by assumption⟩
  all_goals cases h

/-- The reset state with a pair of registers set. -/
def withPair (r : Reg) (v : Word) : State := State.reset.write r v

/-- The launch with a cartridge provider other than the reference one. -/
def openCart : State := State.launch [] .default { Config.Params.default with cart := .other 7 }

/-! ## Well-formedness -/

/-- A mapped opcode is no INVALID (30_encoding.md R88). -/
theorem test_wf_refuses_invalid_nop : (Instr.invalid 0x00).wf = false := by decide

theorem test_wf_refuses_invalid_rst38 : (Instr.invalid 0xFF).wf = false := by decide

theorem test_wf_accepts_invalid_cb : (Instr.invalid 0xCB).wf = true := by decide

/-! ## Words of the opcode table, written out from 30_encoding.md sections 7 and 8 -/

theorem test_decode_ld_r_r : decode [0x41] = .instr (.ldBC) [] := by decide
theorem test_decode_ld_h_a : decode [0x67] = .instr (.ldHA) [] := by decide
theorem test_decode_ld_r_hl : decode [0x7E] = .instr (.ldAIndHL) [] := by decide
theorem test_decode_ld_hl_r : decode [0x74] = .instr (.ldIndHLH) [] := by decide
theorem test_decode_ld_r_d8 : decode [0x06, 0x42] = .instr (.ldBD8 0x42) [] := by decide
theorem test_decode_ld_hl_d8 : decode [0x36, 0x5A] = .instr (.ldIndHLD8 0x5A) [] := by decide
theorem test_decode_ld_a_de : decode [0x1A] = .instr (.ldAIndDE) [] := by decide
theorem test_decode_ld_hli_a : decode [0x22] = .instr (.ldIndHLIncA) [] := by decide
theorem test_decode_ld_a_hld : decode [0x3A] = .instr (.ldAIndHLDec) [] := by decide
theorem test_decode_ld_rr_d16 : decode [0x31, 0xFE, 0xFF] = .instr (.ldSPD16 0xFFFE) [] := by decide
theorem test_decode_ld_a16_sp : decode [0x08, 0x00, 0xC0] = .instr (.ldIndA16SP 0xC000) [] := by decide
theorem test_decode_ld_a_a16 : decode [0xFA, 0x10, 0xC0] = .instr (.ldAIndA16 0xC010) [] := by decide
theorem test_decode_ld_c_a : decode [0xE2] = .instr (.ldIndCA) [] := by decide
theorem test_decode_ld_hl_sp_e8 : decode [0xF8, 0x08] = .instr (.ldHLSPe8 0x08) [] := by decide
theorem test_decode_ldh_a8_a : decode [0xE0, 0x80] = .instr (.ldhIndA8A 0x80) [] := by decide
theorem test_decode_jp_a16 : decode [0xC3, 0x50, 0x01] = .instr (.jpA16 0x0150) [] := by decide
theorem test_decode_jp_cc : decode [0xCA, 0x00, 0x02] = .instr (.jpZA16 0x0200) [] := by decide
theorem test_decode_jp_hl : decode [0xE9] = .instr (.jpHL) [] := by decide
theorem test_decode_jr : decode [0x18, 0xF6] = .instr (.jrE8 0xF6) [] := by decide
theorem test_decode_jr_cc : decode [0x38, 0x05] = .instr (.jrCE8 0x05) [] := by decide
theorem test_decode_call : decode [0xCD, 0x10, 0x01] = .instr (.callA16 0x0110) [] := by decide
theorem test_decode_call_cc : decode [0xDC, 0x00, 0x02] = .instr (.callCA16 0x0200) [] := by decide
theorem test_decode_ret : decode [0xC9] = .instr (.ret) [] := by decide
theorem test_decode_ret_cc : decode [0xD0] = .instr (.retNC) [] := by decide
theorem test_decode_reti : decode [0xD9] = .instr (.reti) [] := by decide
theorem test_decode_rst : decode [0xEF] = .instr (.rst28) [] := by decide
theorem test_decode_push : decode [0xE5] = .instr (.pushHL) [] := by decide
theorem test_decode_pop : decode [0xF1] = .instr (.popAF) [] := by decide
theorem test_decode_inc_r : decode [0x2C] = .instr (.incL) [] := by decide
theorem test_decode_inc_hl : decode [0x34] = .instr (.incIndHL) [] := by decide
theorem test_decode_inc_rr : decode [0x13] = .instr (.incDE) [] := by decide
theorem test_decode_xor_r : decode [0xA8] = .instr (.xorB) [] := by decide
theorem test_decode_xor_hl : decode [0xAE] = .instr (.xorIndHL) [] := by decide
theorem test_decode_xor_d8 : decode [0xEE, 0x5A] = .instr (.xorD8 0x5A) [] := by decide
theorem test_decode_di : decode [0xF3] = .instr (.di) [] := by decide
theorem test_decode_halt_invalid : decode [0x76] = .instr (.invalid 0x76) [] := by decide

/-- 0xCB is no prefix: the byte after it is not part of it (R89). -/
theorem test_decode_cb_takes_one_byte : decode [0xCB, 0x37] = .instr (.invalid 0xCB) [0x37] := by decide

/-- With 0x06 left out of IMPLEMENTED_SET, it is one INVALID byte (R91). -/
theorem test_decode_left_out : decodeIn [0x06] [0x06, 0x42] = .instr (.invalid 0x06) [0x42] := by decide

theorem test_decode_short : decode [0x01, 0xFE] = .rejected .missingImmediate := by decide

theorem test_decode_table_word : decodeTableWord 24 0xC00008 = some (.ldIndA16SP 0xC000) := by decide

theorem test_encode_ld_a16_sp : encode (.ldIndA16SP 0xC000) = [0x08, 0x00, 0xC0] := by decide

/-! ## One step of each form: the spec's examples -/

/-- 41_load.md R126, with its tick. -/
theorem test_nop : (next (program 0x0100 [0x00] State.reset)).map (fun s => (s.pc, s.ticks)) = some (0x0101, 1) := by decide

/-- R128. -/
theorem test_ld_b_c : (next (program 0x0100 [0x41] (State.reset.write .bc 0x1122))).map (fun s => (s.b, s.c, s.pc)) = some (0x22, 0x22, 0x0101) := by decide

/-- R129. -/
theorem test_ld_a_ind_hl : (next (program 0x0100 [0x7E] ((State.reset.write .hl 0xC000).place 0xC000 0x99))).map (fun s => s.a) = some 0x99 := by decide

/-- R129: HL is read before half of it is written. -/
theorem test_ld_h_ind_hl : (next (program 0x0100 [0x66] ((State.reset.write .hl 0xC034).place 0xC034 0x99))).map (fun s => s.read .hl) = some 0x9934 := by decide

/-- R130: the stored byte is the high byte of its own address. -/
theorem test_ld_ind_hl_h : (next (program 0x0100 [0x74] (State.reset.write .hl 0xC123))).map (fun s => s.peek 0xC123) = some (some 0xC1) := by decide

/-- R131, the example of the source. -/
theorem test_ld_b_d8 : (next (program 0x0100 [0x06, 0x42] State.reset)).map (fun s => (s.b, s.pc, s.ticks)) = some (0x42, 0x0102, 2) := by decide

/-- R132. -/
theorem test_ld_ind_hl_d8 : (next (program 0x0100 [0x36, 0x5A] (State.reset.write .hl 0xC000))).map (fun s => s.peek 0xC000) = some (some 0x5A) := by decide

/-- R133. -/
theorem test_ld_a_ind_de : (next (program 0x0100 [0x1A] ((State.reset.write .de 0xFF80).place 0xFF80 0x07))).map (fun s => s.a) = some 0x07 := by decide

/-- R134. -/
theorem test_ld_ind_bc_a : (next (program 0x0100 [0x02] ((State.reset.write .bc 0xC010).write .a 0x3C))).map (fun s => s.peek 0xC010) = some (some 0x3C) := by decide

/-- R135, and HL wraps after reading IE. -/
theorem test_ld_a_ind_hl_inc : (next (program 0x0100 [0x2A] ((State.reset.write .hl 0xFFFF).setIe 0x1F))).map (fun s => (s.a, s.read .hl)) = some (0x1F, 0x0000) := by decide

/-- R136. -/
theorem test_ld_a_ind_hl_dec : (next (program 0x0100 [0x3A] ((State.reset.write .hl 0xC001).place 0xC001 0x10))).map (fun s => (s.a, s.read .hl)) = some (0x10, 0xC000) := by decide

/-- R137. -/
theorem test_ld_ind_hl_inc_a : (next (program 0x0100 [0x22] ((State.reset.write .hl 0xC010).write .a 0x5A))).map (fun s => (s.peek 0xC010, s.read .hl)) = some (some 0x5A, 0xC011) := by decide

/-- R138. -/
theorem test_ld_ind_hl_dec_a : (next (program 0x0100 [0x32] ((State.reset.write .hl 0xDFFF).write .a 0x01))).map (fun s => (s.peek 0xDFFF, s.read .hl)) = some (some 0x01, 0xDFFE) := by decide

/-- R139. -/
theorem test_ld_sp_d16 : (next (program 0x0100 [0x31, 0xFE, 0xFF] State.reset)).map (fun s => (s.sp, s.pc, s.ticks)) = some (0xFFFE, 0x0103, 3) := by decide

/-- R140. -/
theorem test_ld_ind_a16_sp : (next (program 0x0100 [0x08, 0x00, 0xC0] (State.reset.setSp 0x1234))).map (fun s => (s.peek 0xC000, s.peek 0xC001, s.ticks)) = some (some 0x34, some 0x12, 4) := by decide

/-- R141: a store to 0xFFFF is a store to IE. -/
theorem test_ld_ind_a16_a : (next (program 0x0100 [0xEA, 0xFF, 0xFF] (State.reset.write .a 0x1F))).map (fun s => s.ie) = some 0x1F := by decide

/-- R142. -/
theorem test_ld_a_ind_a16 : (next (program 0x0100 [0xFA, 0x10, 0xC0] (State.reset.place 0xC010 0x5A))).map (fun s => s.a) = some 0x5A := by decide

/-- R143. -/
theorem test_ld_ind_c_a : (next (program 0x0100 [0xE2] ((State.reset.write .a 0x66).write .c 0x85))).map (fun s => s.peek 0xFF85) = some (some 0x66) := by decide

/-- R144. -/
theorem test_ld_a_ind_c : (next (program 0x0100 [0xF2] ((State.reset.write .c 0xFF).setIe 0x1F))).map (fun s => s.a) = some 0x1F := by decide

/-- R145. -/
theorem test_ld_hl_sp_e8 : (next (program 0x0100 [0xF8, 0x08] (State.reset.setSp 0xFFF8))).map (fun s => (s.read .hl, s.f, s.sp)) = some (0x0000, 0x30, 0xFFF8) := by decide

/-- R145: a negative offset, and no carry. -/
theorem test_ld_hl_sp_negative : (next (program 0x0100 [0xF8, 0xFF] State.reset)).map (fun s => (s.read .hl, s.f)) = some (0xFFFF, 0x00) := by decide

/-- R146. -/
theorem test_ld_sp_hl : (next (program 0x0100 [0xF9] (State.reset.write .hl 0xDFF0))).map (fun s => s.sp) = some 0xDFF0 := by decide

/-- R148. -/
theorem test_ldh_ind_a8_a : (next (program 0x0100 [0xE0, 0x80] (State.reset.write .a 0x12))).map (fun s => (s.peek 0xFF80, s.ticks)) = some (some 0x12, 2) := by decide

/-- R149. -/
theorem test_ldh_a_ind_a8 : (next (program 0x0100 [0xF0, 0x80] (State.reset.place 0xFF80 0x12))).map (fun s => s.a) = some 0x12 := by decide

/-- 42_control_transfer.md R151. -/
theorem test_jp_a16 : (next (program 0x0100 [0xC3, 0x50, 0x01] State.reset)).map (fun s => (s.pc, s.ticks)) = some (0x0150, 3) := by decide

/-- R152. -/
theorem test_jp_z_taken : (next (program 0x0100 [0xCA, 0x00, 0x02] (State.reset.write .f 0x80))).map (fun s => (s.pc, s.ticks)) = some (0x0200, 3) := by decide

/-- R152. -/
theorem test_jp_z_not_taken : (next (program 0x0100 [0xCA, 0x00, 0x02] State.reset)).map (fun s => (s.pc, s.ticks)) = some (0x0103, 3) := by decide

/-- R153. -/
theorem test_jp_hl : (next (program 0x0100 [0xE9] (State.reset.write .hl 0xC000))).map (fun s => s.pc) = some 0xC000 := by decide

/-- R154, the example of the source. -/
theorem test_jr_wraps : (next (program 0x0003 [0x18, 0xF6] State.reset)).map (fun s => s.pc) = some 0xFFFB := by decide

/-- R155. -/
theorem test_jr_nz_taken : (next (program 0x0103 [0x20, 0xFD] State.reset)).map (fun s => s.pc) = some 0x0102 := by decide

/-- R155. -/
theorem test_jr_nz_not_taken : (next (program 0x0103 [0x20, 0xFD] (State.reset.write .f 0x80))).map (fun s => (s.pc, s.ticks)) = some (0x0105, 2) := by decide

/-- R156. -/
theorem test_call : (next (program 0x0106 [0xCD, 0x10, 0x01] (State.reset.setSp 0xDFFE))).map (fun s => (s.peek 0xDFFD, s.peek 0xDFFC, s.sp, s.pc)) = some (some 0x01, some 0x09, 0xDFFC, 0x0110) := by decide

/-- R157. -/
theorem test_call_c_not_taken : (next (program 0x0150 [0xDC, 0x00, 0x02] (State.reset.setSp 0xC100))).map (fun s => (s.sp, s.pc)) = some (0xC100, 0x0153) := by decide

/-- R159. -/
theorem test_ret : (next (program 0x0100 [0xC9] ((State.reset.placeAll 0xDFFC [0x09, 0x01]).setSp 0xDFFC))).map (fun s => (s.pc, s.sp, s.ticks)) = some (0x0109, 0xDFFE, 1) := by decide

/-- R160. -/
theorem test_ret_c_taken : (next (program 0x0100 [0xD8] (((State.reset.placeAll 0xDFFE [0x0C, 0x01]).setSp 0xDFFE).write .f 0x10))).map (fun s => (s.pc, s.sp, s.ticks)) = some (0x010C, 0xE000, 2) := by decide

/-- R160: the tick is paid. -/
theorem test_ret_c_not_taken : (next (program 0x0100 [0xD8] State.reset)).map (fun s => (s.pc, s.sp, s.ticks)) = some (0x0101, 0x0000, 2) := by decide

/-- R161. -/
theorem test_reti : (next (program 0x0100 [0xD9] ((State.reset.placeAll 0xDFFC [0x00, 0x02]).setSp 0xDFFC))).map (fun s => (s.ime, s.pc, s.sp)) = some (true, 0x0200, 0xDFFE) := by decide

/-- R162. -/
theorem test_rst_38 : (next (program 0x010B [0xFF] (State.reset.setSp 0xE000))).map (fun s => (s.peek 0xDFFF, s.peek 0xDFFE, s.sp, s.pc)) = some (some 0x01, some 0x0C, 0xDFFE, 0x0038) := by decide

/-- 43_stack.md R164. -/
theorem test_push_hl : (next (program 0x0100 [0xE5] ((State.reset.write .hl 0xC011).setSp 0xDFFE))).map (fun s => (s.peek 0xDFFD, s.peek 0xDFFC, s.sp)) = some (some 0xC0, some 0x11, 0xDFFC) := by decide

/-- R165. -/
theorem test_pop_bc : (next (program 0x0100 [0xC1] ((State.reset.placeAll 0xDFFC [0x11, 0xC0]).setSp 0xDFFC))).map (fun s => (s.b, s.c, s.sp)) = some (0xC0, 0x11, 0xDFFE) := by decide

/-- R166. -/
theorem test_pop_af_masks : (next (program 0x0100 [0xF1] ((State.reset.placeAll 0xDFFE [0xFF, 0x12]).setSp 0xDFFE))).map (fun s => (s.a, s.f, s.sp)) = some (0x12, 0xF0, 0xE000) := by decide

/-- 44_arith_logic.md R168. -/
theorem test_inc_a : (next (program 0x0100 [0x3C] ((State.reset.write .a 0xFF).write .f 0x50))).map (fun s => (s.a, s.f)) = some (0x00, 0xB0) := by decide

/-- R168: 0x7F gives 0x80, H and not Z. -/
theorem test_inc_half_carry : (next (program 0x0100 [0x04] (State.reset.write .b 0x7F))).map (fun s => (s.b, s.f)) = some (0x80, 0x20) := by decide

/-- R169. -/
theorem test_inc_ind_hl : (next (program 0x0100 [0x34] ((State.reset.write .hl 0xC000).place 0xC000 0x0F))).map (fun s => (s.peek 0xC000, s.f)) = some (some 0x10, 0x20) := by decide

/-- R170: no flag, one extra tick. -/
theorem test_inc_hl_pair : (next (program 0x0100 [0x23] (State.reset.write .hl 0xFFFF))).map (fun s => (s.read .hl, s.f, s.ticks)) = some (0x0000, 0x00, 2) := by decide

/-- R170: the carry crosses into the high byte. -/
theorem test_inc_bc_carries : (next (program 0x0100 [0x03] (State.reset.write .bc 0x00FF))).map (fun s => (s.b, s.c)) = some (0x01, 0x00) := by decide

/-- R172, the example of the source. -/
theorem test_xor_a : (next (program 0x0100 [0xAF] ((State.reset.write .a 0x37).write .f 0xF0))).map (fun s => (s.a, s.f)) = some (0x00, 0x80) := by decide

/-- R173. -/
theorem test_xor_ind_hl : (next (program 0x0100 [0xAE] (((State.reset.write .hl 0xC000).write .a 0xF0).place 0xC000 0x0F))).map (fun s => (s.a, s.f)) = some (0xFF, 0x00) := by decide

/-- R174. -/
theorem test_xor_d8 : (next (program 0x0100 [0xEE, 0x5A] (State.reset.write .a 0x5A))).map (fun s => (s.a, s.f)) = some (0x00, 0x80) := by decide

/-- 45_system.md R176. -/
theorem test_di : (next (program 0x0100 [0xF3] (State.reset.setIme true))).map (fun s => s.ime) = some false := by decide

/-- R177: the fault's information, and the state left. -/
theorem test_invalid : (faulted (program 0xC000 [0x76] State.reset)).map (fun r => (r.info, r.left.map fun s => (s.pc, s.ticks))) =
    some (.invalidInstruction 0x76 0xC000, some (0xC001, 1)) := by decide

/-- 42_control_transfer.md R156: SP = 0xE002 faults on the high byte. -/
theorem test_call_faults : (faulted (program 0x0100 [0xCD, 0x10, 0x01] (State.reset.setSp 0xE002))).map (fun r => (r.info, r.left.map fun s => s.sp)) =
    some (.unsupportedRegion 0xE001 (.write 0x01), some 0xE001) := by decide

/-- 41_load.md R137: HL is already stepped when the write faults. -/
theorem test_ld_ind_hl_inc_faults : (faulted (program 0x0100 [0x22] (State.reset.write .hl 0xE000))).map (fun r => r.left.map (State.read .hl)) =
    some (some 0xE001) := by decide

/-- 70_reset_and_hazards.md R202: 4 ticks are emitted before a16+1 faults. -/
theorem test_ld_ind_a16_sp_faults : (faulted (program 0x0100 [0x08, 0xFF, 0xDF] State.reset)).map (fun r => (r.info, r.left.map State.ticks)) =
    some (.unsupportedRegion 0xE000 (.write 0x00), some 4) := by decide

/-- 40_step_and_addressing.md R124: the run ends at the boundary where PC is the end address. -/
theorem test_run_to_end : (match runToEnd 0x0102 3 State.reset with
    | .next (reached, s) => (reached, s.ticks)
    | .fault _ | .refused _ => (false, 0)) = (true, 2) := by decide

/-- `withFetchWord` places what the next step runs. -/
theorem test_with_fetch_word : (next (State.reset.withFetchWord 16 0x4206)).map State.b = some 0x42 := by decide

/-- 00_scope.md R8, 20_memory.md R42: a load from another cartridge gives the byte that cartridge answers, after one read. -/
theorem test_open_cart_load : (next (program 0xC000 [0x7E] (openCart.write .hl 0xA000))).map (fun s => (s.a, s.cartLog)) =
    some (Config.cartByte 7 [] 0xA000, [.read 0xA000]) := by
  show some (loByte (zext (Config.cartByte 7 [] 0xA000)), [Config.CartAccess.read 0xA000]) = _
  rw [loByte_zext]

/-- R42: a store to another cartridge's ROM window is passed to it, and stores nothing. -/
theorem test_open_cart_store : (next (program 0xC000 [0x77] ((openCart.write .hl 0x2000).write .a 0x03))).map (fun s => (s.cartLog, s.mem.get 0x2000)) =
    some ([.write 0x2000 0x03], 0x00) := by decide

/-- 20_memory.md R73, on the image of zeros but for its checksum: 0 - 25 * 1 = 0xE7 modulo 256. -/
theorem test_header_checksum : headerValid [(0x14D, 0xE7)] = true := by decide

/-! ## Witnesses: states and operands that meet the hypotheses of the statements -/

/-- BusReadByWindow, BusWriteByWindow: the edges of every window. -/
theorem witness_windows :
    ([0x0000, 0x7FFF, 0x8000, 0x9FFF, 0xA000, 0xDFFF, 0xE000, 0xFDFF, 0xFE00, 0xFE9F, 0xFEA0, 0xFEFF, 0xFF00, 0xFF7F, 0xFF80, 0xFFFE, 0xFFFF] : List Word).map
      (fun a => (decide (Readable a), decide (Writable a), decide (ProviderAddr a.toNat))) =
    [(true, true, true), (true, true, true), (false, false, false), (false, false, false), (true, true, true), (true, true, true),
     (true, false, false), (true, false, false), (false, false, false), (false, false, false), (true, false, false), (true, false, false),
     (false, false, false), (false, false, false), (true, true, true), (true, true, true), (true, true, false)] := by decide

/-- What the bus reads at the same edges of a state whose bytes there are all distinct from 0 where they can be. -/
theorem witness_window_reads :
    ([0x0000, 0x7FFF, 0x8000, 0x9FFF, 0xA000, 0xDFFF, 0xE000, 0xFDFF, 0xFE00, 0xFE9F, 0xFEA0, 0xFEFF, 0xFF00, 0xFF7F, 0xFF80, 0xFFFE, 0xFFFF] : List Word).map
      ((((((((State.reset.place 0x0000 1).place 0x7FFF 2).place 0xA000 3).place 0xDFFF 4).place 0xFF80 5).place 0xFFFE 6).place 0xFFFF 7).peek) =
    [some 1, some 2, none, none, some 3, some 4, some 0, some 0, none, none, some 0, some 0, none, none, some 5, some 6, some 7] := by decide

/-- BusReadByWindow, BusWriteByWindow: the two kinds of cartridge provider. -/
theorem witness_carts : State.reset.params.cart = .reference ∧ openCart.params.cart = .other 7 := by decide

/-- Read16LowByteFirst: its three clauses, at the wrap and at the edge of Video RAM. -/
theorem witness_read16 : State.reset.peek 0xFFFF = some 0x00 ∧ (State.reset.note (.read 0xFFFF)).peek (0xFFFF + 1) = some 0x00 ∧
    State.reset.peek 0x9FFF = none ∧ State.reset.peek 0x7FFF = some 0x00 ∧ (State.reset.note (.read 0x7FFF)).peek (0x7FFF + 1) = none := by decide

/-- Read16LowByteFirst, PopLoadsThePair and the other pops, with another provider: the second byte is the provider's answer after
the first read. -/
theorem witness_open_reads : openCart.peek 0x7FFE = some (Config.cartByte 7 [] 0x7FFE) ∧
    (openCart.note (.read 0x7FFE)).peek 0x7FFF = some (Config.cartByte 7 [.read 0x7FFE] 0x7FFF) := ⟨rfl, rfl⟩

/-- PushThenPopRoundTrip: SP = 0x0001 pushes into the cartridge, SP = 0x0000 does not. -/
theorem witness_open_stack : openCart.OpenAt (0x0001 - 1) ∧ ¬ openCart.OpenAt (0x0001 - 2) ∧ ¬ openCart.OpenAt (0x0000 - 2) := by decide

/-- Write16HighByteFirst and LdIndA16SpStoresSp: their three clauses. -/
theorem witness_write16 : (Writable (0xFFFF + 1) ∧ Writable 0xFFFF) ∧ ¬ Writable (0xDFFF + 1) ∧ (Writable (0x9FFF + 1) ∧ ¬ Writable 0x9FFF) := by decide

/-- Push16Layout and PushThenPopRoundTrip: a push that wraps from 0x0000 to IE. -/
theorem witness_push16 : ∃ s', push16 0x1234 (State.reset.setSp 0x0001) = .ok () s' := ⟨_, rfl⟩

/-- PushStoresThePair, CallsPushPcAndJump, RestartsPushPcAndJump, PushFaults: SP = 0x0001, 0xE002 and 0xA001 (43_stack.md R164). -/
theorem witness_stack_writes : (Writable (0x0001 - 1) ∧ Writable (0x0001 - 2)) ∧ ¬ Writable (0xE002 - 1) ∧
    (Writable (0xA001 - 1) ∧ ¬ Writable (0xA001 - 2)) ∧ (Instr.pushBC, (0x0000 : Word)) ∈ pushesWord 0x0200 State.reset ∧
    (Instr.callNZA16 0x0200, State.reset.pc) ∈ pushesWord 0x0200 State.reset ∧ (Instr.rst38, State.reset.pc) ∈ pushesWord 0x0200 State.reset := by decide

/-- CallsPushPcAndJump and ReturnsPopPc: conditions that hold and that do not. -/
theorem witness_conditions : Cond.nz.holds State.reset.f = true ∧ Cond.z.holds State.reset.f = false ∧ Cond.c.holds 0x10 = true ∧
    Cond.nc.holds 0x10 = false ∧ Cond.none.holds 0xF0 = true := by decide

/-- PopLoadsThePair, PopAfMasksF, ReturnsPopPc, RetiSetsImeAndReturns: SP = 0xFFFF pops from IE and from 0x0000. -/
theorem witness_stack_reads : (State.reset.setSp 0xFFFF).peek (State.reset.setSp 0xFFFF).sp = some 0x00 ∧
    ((State.reset.setSp 0xFFFF).note (.read 0xFFFF)).peek ((State.reset.setSp 0xFFFF).sp + 1) = some 0x00 := by decide

/-- PopFaults: both clauses, at the edges of Video RAM, for a POP and for a RET cc taken. -/
theorem witness_pop_faults : ¬ Readable 0x9FFF ∧ (Readable 0x7FFF ∧ ¬ Readable (0x7FFF + 1)) ∧ (Instr.popBC, State.reset) ∈ popsWord State.reset ∧
    (Instr.retNZ, State.reset.tick 1) ∈ popsWord State.reset := by decide

/-- CanonicalMemoriesThatReadAlikeAreEqual: two memories in canonical form, one built by stores in falling order. -/
theorem witness_canonical : (Memory.set (Memory.set [] 0xC001 2) 0xC000 1).wf = true ∧ Memory.wf [(0xC000, 1), (0xC001, 2)] = true ∧
    Memory.set (Memory.set [] 0xC001 2) 0xC000 1 = [(0xC000, 1), (0xC001, 2)] := by decide

/-- HeaderChecksumDetectsOneCorruptByte: a valid header and a corrupt byte at each end of the range. -/
theorem witness_header : headerValid [(0x14D, 0xE7)] = true ∧ (0x01 : Byte) ≠ Memory.get [(0x14D, 0xE7)] 0x134 ∧
    headerValid (Memory.set [(0x14D, 0xE7)] 0x134 0x01) = false ∧ headerValid (Memory.set [(0x14D, 0xE7)] 0x14C 0xFF) = false := by decide

/-- DecodeOfEncode: an instruction of the default set, and one INVALID because it is left out. -/
theorem witness_admitted : (Instr.ldBD8 0x42).admitted [] = true ∧ (Instr.invalid 0x06).admitted [0x06] = true ∧
    (Instr.invalid 0xCB).admitted [] = true ∧ (Instr.ldBD8 0x42).admitted [0x06] = false := by decide

/-- EncodeOfDecode. -/
theorem witness_decoded : decodeIn [] [0x08, 0x00, 0xC0, 0x99] = .instr (.ldIndA16SP 0xC000) [0x99] := by decide

/-- DecodeRejectsOnlyShortInput: one byte short of each length. -/
theorem witness_short : [(0x06 : Byte)].length < (descOf [] 0x06).mode.format.length ∧
    [(0x01 : Byte), 0xFE].length < (descOf [] 0x01).mode.format.length ∧ (descOf [] 0xCB).mode.format.length ≤ [(0xCB : Byte)].length := by decide

/-- InvariantAtReset: an image in canonical form. -/
theorem witness_image : Memory.wf [(0x0100, 0x3E), (0x0101, 0x07)] = true ∧
    ∀ cell ∈ ([(0x0100, 0x3E), (0x0101, 0x07)] : Memory), ProviderAddr cell.1 := by decide

/-- StepRunsTheDecodedInstruction and TicksOfAStep: an instruction across the end of memory, which completes. -/
theorem witness_step_runs :
    let s := program 0xFFFF [0x06, 0x42] State.reset
    s.status = .running ∧ s.halted = false ∧ decodeIn s.params.leftOut [0x06, 0x42] = .instr (.ldBD8 0x42) [] ∧
      BytesAt s s.pc [0x06, 0x42] ∧ ∃ s', step s = .next s' :=
  ⟨rfl, rfl, rfl, ⟨rfl, rfl, trivial⟩, exists_next (by decide)⟩

/-- FetchFaults: its three clauses, at the edges of Video RAM. -/
theorem witness_fetch_faults :
    ¬ Readable 0x8000 ∧
    ((program 0x7FFF [0x06] State.reset).peek 0x7FFF = some 0x06 ∧ (descOf [] 0x06).mode.format ≠ .op ∧ ¬ Readable (0x7FFF + 1)) ∧
    ((program 0x7FFE [0x01] State.reset).peek 0x7FFE = some 0x01 ∧ (descOf [] 0x01).mode.format = .opImm16 ∧
      Readable (0x7FFE + 1) ∧ ¬ Readable (0x7FFE + 2)) := by decide

/-- HaltedStepOnlyTicks: a halted core that is running. -/
theorem witness_halted : ({ State.reset with halted := true } : State).status = .running ∧ ({ State.reset with halted := true } : State).halted = true := by decide

/-- FaultedHasNoStep. -/
theorem witness_faulted : (State.reset.enterFaulted (.invalidInstruction 0x76 0x0100)).status = .faulted (.invalidInstruction 0x76 0x0100) := by decide

/-- FaultsAreTheTwoKinds and FLowNibbleStaysZero: a step that faults in each way. -/
theorem witness_faults : (∃ r, step (program 0x0100 [0x76] State.reset) = .fault r) ∧
    (∃ r, step (program 0x0100 [0x7E] (State.reset.write .hl 0x8000)) = .fault r) ∧
    (∃ r, step (program 0x0100 [0x77] (State.reset.write .hl 0xE000)) = .fault r) :=
  ⟨exists_fault (by decide), exists_fault (by decide), exists_fault (by decide)⟩

/-- StepKeepsTheInvariant, StepKeepsHaltedAndParams, StepCompletesOrFaults, TransientCarriesNothingAcrossSteps: a state with the
invariant that steps. -/
theorem witness_invariant_step : State.reset.Inv ∧ State.reset.status = .running ∧ State.reset.halted = false ∧ ∃ s', step State.reset = .next s' :=
  ⟨by decide, rfl, rfl, exists_next (by decide)⟩

/-- OnlyListedInstructionsWriteFlags, NonBranchingInstructionsLeavePcAlone: an instruction in neither list that completes. -/
theorem witness_unlisted : ¬ WritesFlags (.ldBD8 0x42) ∧ ¬ Transfers (.ldBD8 0x42) ∧ ∃ s', exec (.ldBD8 0x42) State.reset = .next s' :=
  ⟨show ¬ (_ ∈ _) by decide, show ¬ (_ ∈ _) by decide, exists_exec (by decide)⟩

/-- OnlyDiAndRetiWriteIme: DI, RETI and another complete. -/
theorem witness_ime : (∃ s', exec .di State.reset = .next s') ∧ (∃ s', exec .reti State.reset = .next s') ∧ (∃ s', exec .nop State.reset = .next s') :=
  ⟨exists_exec (by decide), exists_exec (by decide), exists_exec (by decide)⟩

/-- LoadsReadTheirAddress, LoadsThatStepHl, XorIndHlExclusiveOrs, IncIndHlIncrements: an address that reads, one that faults, and one
that reads and takes no write. -/
theorem witness_load_addresses : (withPair .hl 0xFFFF).peek ((withPair .hl 0xFFFF).read .hl) = some 0x00 ∧ Writable ((withPair .hl 0xFFFF).read .hl) ∧
    ¬ Readable ((withPair .hl 0xFF7F).read .hl) ∧ (Readable ((withPair .hl 0xFDFF).read .hl) ∧ ¬ Writable ((withPair .hl 0xFDFF).read .hl)) := by decide

/-- The loads through C and a8: 0xFF00 | 0x80 reads, 0xFF00 | 0x7F faults. -/
theorem witness_high_page : State.reset.peek (highPage 0x80) = some 0x00 ∧ ¬ Readable (highPage 0x7F) ∧ Writable (highPage 0x80) ∧ ¬ Writable (highPage 0x7F) := by decide

/-- StoresWriteTheirAddress, StoresThatStepHl: an address that takes a write and one that does not. -/
theorem witness_store_addresses : Writable ((withPair .hl 0xDFFF).read .hl) ∧ ¬ Writable ((withPair .hl 0xE000).read .hl) := by decide

end Sys2Proof.Tests
end

section
/-! SUPPORT. The statements about the registers, the flags and the invariant of the machine (10_state.md). -/

namespace Sys2Proof.Machine

/-! ## Register pairs (10_state.md R17, R18) -/

/-- The join of two bytes as the spec writes it. -/
theorem join_eq_shift_or (hi lo : Byte) : join hi lo = (hi.setWidth 16 <<< 8) ||| lo.setWidth 16 := by
  rw [join, BitVec.append_def, BitVec.shiftLeftZeroExtend_eq, BitVec.setWidth'_eq]

/-- Masking the low half of a join masks the word. -/
theorem join_and_low (w : Word) (mask : Byte) : join (hiByte w) (loByte w &&& mask) = w &&& join 0xFF mask := by
  calc join (hiByte w) (loByte w &&& mask)
      = join (hiByte w &&& 0xFF) (loByte w &&& mask) := by rw [show (0xFF : Byte) = BitVec.allOnes 8 from rfl, BitVec.and_allOnes]
    _ = join (hiByte w) (loByte w) &&& join 0xFF mask := BitVec.and_append.symm
    _ = w &&& join 0xFF mask := by rw [join_hiByte_loByte]

/-- AF reads back what was written, but for F's low nibble (R19). -/
theorem read_write_af (s : State) (v : Word) : (s.write .af v).read .af = v &&& 0xFFF0 := join_and_low v 0xF0

/-- Settles O1: `read` joins the halves, `write` splits the value, and `join` undoes the split. -/
theorem pairsJoinAndSplitTheirHalves : Obligations.PairsJoinAndSplitTheirHalves := by
  intro s v
  refine ⟨⟨join_eq_shift_or .., join_eq_shift_or .., join_eq_shift_or .., join_eq_shift_or ..⟩,
    ⟨rfl, rfl⟩, ⟨rfl, rfl⟩, ⟨rfl, rfl⟩, ⟨rfl, rfl⟩, ?_, ?_, ?_, read_write_af s v⟩
  all_goals exact read_write_self16 s _ v (by decide)

/-! ## Flags and conditions (R19 to R22) -/

/-- The mask of every write to F clears its low nibble (R19). -/
@[simp] theorem flag_mask_low_nibble (v : Byte) : v &&& 0xF0 &&& 0x0F = 0 := by
  rw [BitVec.and_assoc]; exact BitVec.and_zero

/-- What a directive makes of its flag (R21). -/
def Directive.result (d : Directive) (old : Bool) : Bool :=
  match d with
  | .force0 => false
  | .force1 => true
  | .keep => old

/-- A directive acts on the bits of its mask and on no other. -/
theorem Directive.getElem_apply (d : Directive) (mask f : Byte) {i : Nat} (hi : i < 8) :
    (d.apply mask f)[i] = if mask[i] then d.result f[i] else f[i] := by
  cases d <;> cases hm : mask[i] <;> simp [Directive.apply, Directive.result, hm]

/-- Each flag follows its own directive, and F's low nibble is 0. -/
theorem flagsAre_setFlags (z n h c : Directive) (s : State) :
    FlagsAre (setFlags z n h c s).f (z.result (s.f.getLsbD 7)) (n.result (s.f.getLsbD 6)) (h.result (s.f.getLsbD 5))
      (c.result (s.f.getLsbD 4)) := by
  refine ⟨?_, ?_, ?_, ?_, flag_mask_low_nibble _⟩
  all_goals simp [setFlags, flagsAfter, Directive.getElem_apply]

/-- Settles O3: `Directive.result` is what the statement wants of each directive. -/
theorem setFlagsFollowsItsDirectives : Obligations.SetFlagsFollowsItsDirectives :=
  ⟨fun z n h c s => ⟨flagsAre_setFlags z n h c s, rfl⟩, rfl, rfl⟩

/-- Settles O4: each condition is a bit of F or its negation. -/
theorem conditionsReadZAndC : Obligations.ConditionsReadZAndC := by
  intro f
  simp [Cond.holds]

/-! ## Stable properties: the parts of the invariant, one by one -/

/-- F's low nibble is 0 (R19). -/
theorem stable_f_low_nibble : Stable fun s => s.f &&& 0x0F = 0 where
  tick _ _ h := h
  setPc _ _ h := h
  setSp _ _ h := h
  setF _ _ _ := flag_mask_low_nibble _
  setT _ _ h := h
  write r v s h := by
    cases r
    case f | af => exact flag_mask_low_nibble _
    all_goals exact h
  place a b s _ h := by rwa [place_f]
  note x s h := by rwa [State.note_f]

/-- What a bus write makes of the memory list: nothing, or a store at a provider's address. -/
theorem place_mem_cases {a : Word} (ha : Writable a) (b : Byte) (s : State) :
    (s.place a b).mem = s.mem ∨ ProviderAddr a.toNat ∧ (s.place a b).mem = s.mem.set a.toNat b := by
  rw [place_eq, if_pos ha]
  split_ifs with hie hopen
  · exact .inl rfl
  · exact .inl (State.note_mem ..)
  · exact .inr ⟨(writable_cases ha).resolve_right hie, rfl⟩

/-- A property of the memory list that every store at a provider's address keeps is stable. -/
theorem stable_mem {Q : Memory → Prop} (hQ : ∀ m a v, ProviderAddr a → Q m → Q (m.set a v)) : Stable fun s => Q s.mem where
  tick _ _ h := h
  setPc _ _ h := h
  setSp _ _ h := h
  setF _ _ h := h
  setT _ _ h := h
  write r v s h := by rwa [State.write_mem]
  place a b s ha h := by
    rcases place_mem_cases ha b s with hm | ⟨hp, hm⟩ <;> rw [hm]
    · exact h
    · exact hQ _ _ _ hp h
  note x s h := by rwa [State.note_mem]

/-- Memory stays in canonical form. -/
theorem stable_mem_wf : Stable fun s => s.mem.wf = true :=
  stable_mem (Q := fun m => m.wf = true) fun _ a v _ h => Memory.wf_set a v h

/-- Memory lists provider addresses only. -/
theorem stable_mem_provider : Stable fun s => ∀ cell ∈ s.mem, ProviderAddr cell.1 :=
  stable_mem (Q := fun m => ∀ cell ∈ m, ProviderAddr cell.1) fun _ _ _ ha h cell hc =>
    (Memory.mem_set hc).elim (fun he => he ▸ ha) (h cell)

/-- Every property of IME, halted, the status and the parameters is stable: the only updates an instruction makes to any of
them are DI's and RETI's writes of IME, which `Stable` leaves out. -/
theorem stable_control (Q : Bool → Bool → Status → Config.Params → Prop) :
    Stable fun s => Q s.ime s.halted s.status s.params where
  tick _ _ h := h
  setPc _ _ h := h
  setSp _ _ h := h
  setF _ _ h := h
  setT _ _ h := h
  write r v s h := by rwa [State.write_ime, State.write_halted, State.write_status, State.write_params]
  place a b s _ h := by rwa [place_ime, place_halted, place_status, place_params]
  note x s h := by rwa [State.note_ime, State.note_halted, State.note_status, State.note_params]

theorem stable_halted (b : Bool) : Stable fun s => s.halted = b := stable_control fun _ halted _ _ => halted = b

theorem stable_status (status : Status) : Stable fun s => s.status = status := stable_control fun _ _ status' _ => status' = status

theorem stable_ime (b : Bool) : Stable fun s => s.ime = b := stable_control fun ime _ _ _ => ime = b

/-- The reference provider keeps no record of accesses (20_memory.md R61). -/
theorem stable_reference_cartLog : Stable fun s => s.params.cart = .reference → s.cartLog = [] where
  tick _ _ h := h
  setPc _ _ h := h
  setSp _ _ h := h
  setF _ _ h := h
  setT _ _ h := h
  write r v s h := by rwa [State.write_params, State.write_cartLog]
  place a b s _ h := by
    rw [place_params]
    intro hc
    rw [place_cartLog fun ho => ho.1 hc]; exact h hc
  note x s h := by
    rw [State.note_params]
    intro hc
    rw [State.note_not_open s fun ho => ho.1 hc]; exact h hc

/-! ## The step -/

/-- A fetch starts by resetting the transient state (40_step_and_addressing.md R98), so it does not depend on it. -/
theorem fetchInstr_setT (s : State) (t : Transient) : fetchInstr (s.setT t) = fetchInstr s := rfl

/-- The end of every instruction discards the transient state (R29). -/
theorem exec_next_transient {i : Instr} {s s' : State} (h : exec i s = .next s') : s'.t = .cleared :=
  ((exec_stable (stable_halted s.halted) rfl fun _ _ _ h => h).1 s' h).2

/-- A completed step of a core that is not halted leaves the transient state cleared. -/
theorem step_next_transient {s s' : State} (hh : s.halted = false) (h : step s = .next s') : s'.t = .cleared := by
  obtain ⟨-, ⟨hh', -⟩ | ⟨-, i, s1, -, hx⟩⟩ := step_next h
  · rw [hh] at hh'; cases hh'
  · exact exec_next_transient hx

/-- Settles O28: Fetch resets the transient state and the end of the instruction discards it. -/
theorem transientCarriesNothingAcrossSteps : Obligations.TransientCarriesNothingAcrossSteps := by
  refine ⟨fun s t hh => ?_, fun s s' => step_next_transient⟩
  cases hs : s.status with
  | running => rw [step_running hs hh, step_running (s := s.setT t) hs hh, fetchInstr_setT]
  | faulted info => simp only [step, State.setT_status, hs]

/-- The state a taken fault leaves is the state it was raised in, marked Faulted (60_exceptions.md R182). -/
theorem takeFault_left {info : FaultInfo} {s left : State} {r : Fault} (h : takeFault info s = .fault r)
    (hl : r.left = some left) : left = s.enterFaulted info := by
  cases info <;> (cases h; cases hl; rfl)

/-- A step that faults keeps, up to the fault, a stable property that does not speak of IME. -/
theorem step_fault_stable {P : State → Prop} (hP : Stable P) (hime : ∀ b s, P s → P (s.setIme b)) {s left : State} {r : Fault}
    (h : P s) (hr : step s = .fault r) (hl : r.left = some left) : ∃ info s', P s' ∧ left = s'.enterFaulted info := by
  unfold step at hr
  split at hr
  · cases hr; cases hl
  · split at hr
    · cases hr
    · have hf := hP.fetchInstr h
      split at hr
      · next i s1 he =>
        rw [he] at hf
        obtain ⟨info, s2, hp, ht⟩ := (exec_stable hP hf fun _ => hime).2.1 r hr
        exact ⟨info, s2, hp, takeFault_left ht hl⟩
      · next info s1 he =>
        rw [he] at hf
        exact ⟨info, s1, hf, takeFault_left hr hl⟩

/-- Settles O26: every part of the invariant but the transient state is stable, and the step clears that at its end. -/
theorem stepKeepsTheInvariant : Obligations.StepKeepsTheInvariant := by
  rintro s s' ⟨hf, hwf, hprov, -, hhalted, hstatus, hlog⟩ hn
  exact ⟨step_stable stable_f_low_nibble (fun _ _ h => h) hf hn,
    step_stable stable_mem_wf (fun _ _ h => h) hwf hn,
    step_stable stable_mem_provider (fun _ _ h => h) hprov hn,
    step_next_transient hhalted hn,
    step_stable (stable_halted false) (fun _ _ h => h) hhalted hn,
    step_stable (stable_status .running) (fun _ _ h => h) hstatus hn,
    step_stable stable_reference_cartLog (fun _ _ h => h) hlog hn⟩

/-- Settles O2: both writes to F mask it, and a zero low nibble is stable. -/
theorem fLowNibbleStaysZero : Obligations.FLowNibbleStaysZero := by
  refine ⟨fun _ _ => ⟨rfl, rfl⟩, fun _ r _ => flag_mask_low_nibble r.f, fun s h => ⟨fun s' hn => ?_, fun r left hr hl => ?_⟩⟩
  · exact step_stable stable_f_low_nibble (fun _ _ h => h) h hn
  · obtain ⟨info, s', hs', rfl⟩ := step_fault_stable stable_f_low_nibble (fun _ _ h => h) h hr hl
    exact hs'

/-- The launch state has the invariant when its image has the two parts that are about memory. -/
theorem launch_inv {image : Memory} (hwf : image.wf = true) (hprov : ∀ cell ∈ image, ProviderAddr cell.1)
    (r : Config.InitRegs) (p : Config.Params) : (State.launch image r p).Inv :=
  ⟨flag_mask_low_nibble r.f, hwf, hprov, rfl, rfl, rfl, fun _ => rfl⟩

/-- Settles O19: reset is the launch of the empty image. -/
theorem invariantAtReset : Obligations.InvariantAtReset :=
  ⟨launch_inv rfl (by simp) _ _, fun _ r p hwf hprov => launch_inv hwf hprov r p⟩

/-! ## IME (10_state.md R24) -/

/-- DI and RETI are the only instructions of their kinds. -/
theorem eq_di_or_reti_of_kind {i : Instr} (h : i.desc.kind = .di ∨ i.desc.kind = .reti) : i = .di ∨ i = .reti := by
  cases i
  case di => exact .inl rfl
  case reti => exact .inr rfl
  all_goals rcases h with h | h <;> cases h

/-- DI completes with IME cleared (45_system.md R176). -/
theorem exec_di (s : State) : exec .di s = .next (s.setIme false).discard := rfl

/-- A completed step ends in the state of its last operation, with the transient state discarded. -/
theorem Res.outcome_next {r : Res Unit} {s' : State} (h : r.outcome = .next s') : ∃ s, r = .ok () s ∧ s' = s.discard := by
  cases r with
  | ok x s => cases h; exact ⟨s, rfl, rfl⟩
  | raise info s => cases info <;> cases h

/-- RETI that completes leaves IME set (42_control_transfer.md R161). -/
theorem exec_reti_ime {s s' : State} (h : exec .reti s = .next s') : s'.ime = true := by
  have hends : ((pop16 (s.setIme true)).bind fun v s => Res.ok () (s.setPc v)).Ends (·.ime = true) :=
    ((stable_ime true).pop16 rfl).bind fun _ _ h => h
  obtain ⟨s1, hr, rfl⟩ := Res.outcome_next ((run_reti ..).symm.trans h)
  rw [hr] at hends
  exact hends

/-- An instruction that is neither DI nor RETI keeps IME when it completes (45_system.md R178). -/
theorem exec_ime_kept {i : Instr} {s s' : State} (hdi : i ≠ .di) (hreti : i ≠ .reti) (h : exec i s = .next s') : s'.ime = s.ime :=
  ((exec_stable (stable_ime s.ime) rfl fun hk => absurd (eq_di_or_reti_of_kind hk) (not_or.mpr ⟨hdi, hreti⟩)).1 s' h).1

/-- Settles O31: IME is stable but for the writes of DI and RETI. -/
theorem onlyDiAndRetiWriteIme : Obligations.OnlyDiAndRetiWriteIme := by
  intro i s s' h
  refine ⟨?_, ?_, fun hdi hreti => exec_ime_kept hdi hreti h⟩
  · rintro rfl
    rw [exec_di] at h
    cases h
    rfl
  · rintro rfl
    exact exec_reti_ime h

end Sys2Proof.Machine
end

section
/-! SUPPORT. The statements about the bus, the 16-bit accesses, the stack helper, the memory list and the cartridge header
(20_memory.md). -/

namespace Sys2Proof.Machine

/-! ## Bus reads (R40) -/

/-- The cartridge windows are open under every provider that has a number. -/
theorem openAt_of_other {s : State} {addr : Word} {id : Nat} (hc : s.params.cart = .other id) (h : CartAddr addr) : s.OpenAt addr :=
  ⟨by rw [hc]; exact Config.Cart.noConfusion, h⟩

/-- In a cartridge window it is the cartridge provider that answers (R42, R44). -/
theorem busRead_cart {addr : Word} (h : CartAddr addr) (s : State) :
    busRead addr s = .ok (s.cartRead addr) (s.note (.read addr)) := by
  rcases (cartAddr_iff addr).mp h with hr | hr <;> simp only [busRead, hr]

/-- In the two windows of the RAM provider a read gives the byte in the memory list and changes nothing. -/
theorem busRead_ram {addr : Word} (hp : ProviderAddr addr.toNat) (hc : ¬ CartAddr addr) (s : State) :
    busRead addr s = .ok (s.mem.get addr.toNat) s := by
  rw [cartAddr_iff, not_or] at hc
  rcases region_provider hp with hr | hr | hr | hr
  · exact absurd hr hc.1
  · exact absurd hr hc.2
  all_goals simp only [busRead, hr]

/-- A read of an address that is not readable raises UnsupportedRegion(addr, Read). -/
theorem busRead_raise {addr : Word} (h : ¬ Readable addr) (s : State) :
    busRead addr s = .raise (.unsupportedRegion addr .read) s :=
  busRead_none ((peek_eq_none_iff addr s).mpr h)

/-- Settles O5: the lemmas above in the cartridge, RAM and unsupported windows, the region's own answer in the other three. -/
theorem busReadByWindow : Obligations.BusReadByWindow := by
  intro s addr
  refine ⟨fun h => ⟨fun hc => ?_, fun id hc => ?_⟩, fun h => busRead_raise (by omega) s, fun h => busRead_ram (by omega) (by omega) s,
    fun h => ?_, fun h => busRead_raise (by omega) s, fun h => ?_, fun h => busRead_raise (by omega) s,
    fun h => busRead_ram (by omega) (by omega) s, ?_⟩
  · rw [busRead_cart h, State.note_not_open s fun ho => ho.1 hc, State.cartRead, hc]
  · rw [busRead_cart h, State.note_open s (x := .read addr) (openAt_of_other hc h), State.cartRead, hc]
  · simp only [busRead, region_echo h]
  · simp only [busRead, region_unusable h]
  · rintro rfl
    rfl

/-! ## Bus writes (R41) -/

/-- At 0xFFFF a write is a write of IE (R50). -/
theorem place_at_ie (b : Byte) (s : State) : s.place 0xFFFF b = s.setIe b := rfl

/-- At every other address a write leaves IE. -/
theorem place_ie_of_ne {addr : Word} (h : addr ≠ 0xFFFF) (b : Byte) (s : State) : (s.place addr b).ie = s.ie := by
  rw [place_eq]
  split_ifs with hw hi ho
  · exact absurd (BitVec.eq_of_toNat_eq hi) h
  · exact State.note_ie ..
  · rfl
  · rfl

/-- Settles O6: a write that completes is `place`, whose read-back, frame and effect on IE have their own lemmas. -/
theorem busWriteByWindow : Obligations.BusWriteByWindow := by
  intro s addr b
  refine ⟨fun hw => ⟨s.place addr b, busWrite_ok hw b s, holds_place hw b s, ?_, fun hne => place_ie_of_ne hne b s,
    Changes.refl.place hw b⟩, fun id hc h => ?_, fun hw => busWrite_raise hw b s⟩
  · rintro rfl
    rw [place_at_ie]
    exact ⟨rfl, rfl⟩
  · have ho : s.OpenAt addr := openAt_of_other hc h
    rw [busWrite_ok (by omega), place_open ho, State.note_open s (x := .write addr b) ho]

/-! ## 16-bit accesses (R54 to R56) -/

/-- Settles O7: each clause is what `busRead` does at its two addresses, in order. -/
theorem read16LowByteFirst : Obligations.Read16LowByteFirst := by
  intro s addr
  refine ⟨fun lo hi h1 h2 => ?_, fun h => ?_, fun lo h1 h2 => ?_⟩
  · rw [read16, busRead_some h1, Res.bind_ok, busRead_some h2, Res.bind_ok]
  · rw [read16, busRead_none h, Res.bind_raise]
  · rw [read16, busRead_some h1, Res.bind_ok, busRead_none h2, Res.bind_raise]

/-- Settles O8: a 16-bit write is two `place`s, the high byte's first, and the second leaves what the first wrote. -/
theorem write16HighByteFirst : Obligations.Write16HighByteFirst := by
  intro s addr v
  refine ⟨fun h1 h0 => ⟨_, write16_ok s h1 h0, holds_place h0 _ _, (holds_place h1 _ _).place h0 (add_one_ne_self addr), ?_⟩,
    write16_raise_high s, fun h1 h0 => ⟨_, write16_raise_low s h1 h0, holds_place h1 _ _, Changes.refl.place h1 _⟩⟩
  exact (Changes.refl.place h1 _).place h0 _

/-! ## The stack helper (R63 to R66) -/

/-- Settles O9: a push16 that completes is `pushed16`. -/
theorem push16Layout : Obligations.Push16Layout := by
  intro s s' v h
  obtain ⟨h1, h2, rfl⟩ := push16_inv h
  obtain ⟨hhi, hlo⟩ := holds_pushed16 s (v := v) h1 h2
  exact ⟨hhi, hlo, pushed16_sp s v, Changes.pushed16 v h1 h2⟩

/-- Where its two addresses are readable, a pop16 completes with what the bus shows there: the low byte first, the high byte
after that read is noted. -/
theorem pop16_of_readable {s : State} (h0 : Readable s.sp) (h1 : Readable (s.sp + 1)) :
    ∃ lo hi, s.peek s.sp = some lo ∧ (s.note (.read s.sp)).peek (s.sp + 1) = some hi ∧
      pop16 s = .ok (join hi lo) (s.notePop.setSp (s.sp + 2)) := by
  obtain ⟨lo, hlo⟩ := (peek_isSome_iff _ s).mpr h0
  obtain ⟨hi, hhi⟩ := (peek_isSome_iff _ (s.note (.read s.sp))).mpr h1
  exact ⟨lo, hi, hlo, hhi, pop16_ok s hlo hhi⟩

/-- A push16 does not move what is open. -/
theorem openAt_pushed16 (s : State) (v addr : Word) : (pushed16 v s).OpenAt addr ↔ s.OpenAt addr := by
  rw [State.OpenAt, pushed16, pushed8, place_params, State.setSp_params, pushed8, place_params, State.setSp_params]

/-- Settles O10: the pop16 reads the two addresses the push16 wrote, where its bytes read back. -/
theorem pushThenPopRoundTrip : Obligations.PushThenPopRoundTrip := by
  intro s s' v h
  obtain ⟨h1, h2, rfl⟩ := push16_inv h
  have hsp1 : s.sp - 2 + 1 = s.sp - 1 := by bv_omega
  have hsp2 : s.sp - 2 + 2 = s.sp := by bv_omega
  obtain ⟨lo, hi, hlo, hhi, hpop⟩ := pop16_of_readable (s := pushed16 v s) (by rw [pushed16_sp]; exact writable_readable h2)
    (by rw [pushed16_sp, hsp1]; exact writable_readable h1)
  rw [pushed16_sp] at hlo hhi hpop
  rw [hsp1] at hhi
  refine ⟨_, _, hpop, hsp2, fun ho1 ho2 => ?_⟩
  rw [← openAt_pushed16 s v] at ho1 ho2
  obtain ⟨hholds1, hholds2⟩ := holds_pushed16 s (v := v) h1 h2
  rw [hholds2 ho2, Option.some_inj] at hlo
  rw [peek_note ho1, hholds1 ho1, Option.some_inj] at hhi
  rw [← hlo, ← hhi, join_hiByte_loByte]

/-! ## The canonical form of the memory list -/

/-- The canonical form of a list, entry by entry. -/
theorem Memory.wfFrom_cons {m : Memory} {lo k : Nat} {v : Byte} :
    wfFrom lo ((k, v) :: m) = true ↔ lo ≤ k ∧ v ≠ initByte ∧ wfFrom (k + 1) m = true := by
  simp only [wfFrom, Bool.and_eq_true, decide_eq_true_eq, and_assoc]

/-- A list in canonical form from `lo` on lists nothing below `lo`. -/
theorem Memory.get_of_lt {m : Memory} {lo a : Nat} (h : wfFrom lo m = true) (ha : a < lo) : get m a = initByte := by
  induction m generalizing lo with
  | nil => rfl
  | cons cell m ih =>
    obtain ⟨hk, -, hm⟩ := wfFrom_cons.mp h
    rw [get, if_neg (by omega)]
    exact ih hm (by omega)

/-- The first entry of a list in canonical form can be seen: there the list does not read as unlisted. -/
theorem Memory.get_head_ne {m : Memory} {lo k : Nat} {v : Byte} (h : wfFrom lo ((k, v) :: m) = true) :
    get ((k, v) :: m) k ≠ initByte := by
  obtain ⟨-, hv, -⟩ := wfFrom_cons.mp h
  rwa [get, if_pos rfl]

/-- Nothing below the first entry is listed. -/
theorem Memory.get_lt_head {m : Memory} {lo k a : Nat} {v : Byte} (h : wfFrom lo ((k, v) :: m) = true) (ha : a < k) :
    get ((k, v) :: m) a = initByte := by
  obtain ⟨-, hv, hm⟩ := wfFrom_cons.mp h
  exact get_of_lt (wfFrom_cons.mpr ⟨le_rfl, hv, hm⟩) ha

/-- Lists in canonical form that read alike are equal: neither can list first an address the other does not, so the first
entries agree, and then the rests read alike. -/
theorem Memory.eq_of_get_eq {m m' : Memory} {lo lo' : Nat} (h : wfFrom lo m = true) (h' : wfFrom lo' m' = true)
    (hget : ∀ a, get m a = get m' a) : m = m' := by
  induction m generalizing lo m' lo' with
  | nil =>
    cases m' with
    | nil => rfl
    | cons cell' m' => exact absurd (hget cell'.1).symm (get_head_ne h')
  | cons cell m ih =>
    cases m' with
    | nil => exact absurd (hget cell.1) (get_head_ne h)
    | cons cell' m' =>
      obtain ⟨k, v⟩ := cell
      obtain ⟨k', v'⟩ := cell'
      have hk : k = k' := by
        rcases lt_trichotomy k k' with hlt | heq | hgt
        · exact absurd ((hget k).trans (get_lt_head h' hlt)) (get_head_ne h)
        · exact heq
        · exact absurd ((hget k').symm.trans (get_lt_head h hgt)) (get_head_ne h')
      subst hk
      have hv : v = v' := by simpa [get] using hget k
      subst hv
      obtain ⟨-, -, hm⟩ := wfFrom_cons.mp h
      obtain ⟨-, -, hm'⟩ := wfFrom_cons.mp h'
      rw [ih hm hm' fun a => ?_]
      by_cases ha : a = k
      · rw [ha, get_of_lt hm k.lt_succ_self, get_of_lt hm' k.lt_succ_self]
      · simpa [get, Ne.symm ha] using hget a

/-- Settles O11: the canonical form is the one from address 0 on. -/
theorem canonicalMemoriesThatReadAlikeAreEqual : Obligations.CanonicalMemoriesThatReadAlikeAreEqual :=
  fun _ _ h h' hget => Memory.eq_of_get_eq h h' hget

/-! ## The header checksum (R72, R73) -/

/-- The bytes of the image by their distance from the offset. -/
theorem imageBytes_eq_map (image : Memory) (offset n : Nat) :
    imageBytes image offset n = (List.range n).map fun k => image.get (offset + k) := by
  induction n generalizing offset with
  | zero => rfl
  | succ n ih =>
    rw [imageBytes, ih, List.range_succ_eq_map, List.map_cons, List.map_map]
    simp [Function.comp_def, Nat.add_assoc, Nat.add_comm 1]

/-- The bytes of a range are those of its two parts, one after the other. -/
theorem imageBytes_add (image : Memory) (offset m n : Nat) :
    imageBytes image offset (m + n) = imageBytes image offset m ++ imageBytes image (offset + m) n := by
  simp [imageBytes_eq_map, List.range_add, Nat.add_assoc]

/-- A store outside a range leaves its bytes. -/
theorem imageBytes_set_of_outside (image : Memory) {a offset n : Nat} (v : Byte) (h : a < offset ∨ offset + n ≤ a) :
    imageBytes (image.set a v) offset n = imageBytes image offset n := by
  rw [imageBytes_eq_map, imageBytes_eq_map]
  refine List.map_congr_left fun k hk => Memory.get_set_ne _ v ?_
  rw [List.mem_range] at hk
  omega

/-- One byte's part of the header checksum (R73). -/
def checksumByte (sum b : Byte) : Byte := sum - b - 1

/-- The checksum of a list of bytes can be undone: from different starts it ends in different sums. -/
theorem foldl_checksumByte_injective (bytes : List Byte) : Function.Injective fun sum => bytes.foldl checksumByte sum := by
  induction bytes with
  | nil => exact fun _ _ h => h
  | cons b bytes ih =>
    intro x y h
    have hxy : x - b - 1 = y - b - 1 := ih h
    exact sub_left_injective (sub_left_injective hxy)

/-- Another byte at one address of the range gives another checksum: the sums before it agree, it makes them differ, and the
bytes after it keep them different. -/
theorem headerChecksum_set_ne {image : Memory} {a : Nat} {v : Byte} (hlo : 0x134 ≤ a) (hhi : a ≤ 0x14C) (hv : v ≠ image.get a) :
    headerChecksum (image.set a v) ≠ headerChecksum image := by
  obtain ⟨i, rfl⟩ := Nat.exists_eq_add_of_le hlo
  have hsplit (m : Memory) : headerChecksum m =
      (imageBytes m (0x134 + i + 1) (24 - i)).foldl checksumByte
        (checksumByte ((imageBytes m 0x134 i).foldl checksumByte 0) (m.get (0x134 + i))) := by
    show (imageBytes m 0x134 25).foldl checksumByte 0 = _
    rw [show 25 = i + (24 - i + 1) by omega, imageBytes_add, imageBytes, List.foldl_append, List.foldl_cons]
  intro h
  rw [hsplit, hsplit, imageBytes_set_of_outside image v (by omega), imageBytes_set_of_outside image v (by omega),
    Memory.get_set_same] at h
  exact hv (sub_right_injective (sub_left_injective (foldl_checksumByte_injective _ h)))

/-- The header is valid when its checksum field is the computed one. -/
theorem headerValid_iff (image : Memory) : headerValid image = true ↔ headerChecksum image = image.get 0x14D := beq_iff_eq

/-- Settles O12: a corrupt byte changes the checksum and not the field it is compared with. -/
theorem headerChecksumDetectsOneCorruptByte : Obligations.HeaderChecksumDetectsOneCorruptByte := by
  refine ⟨fun image => ⟨?_, headerValid_iff image⟩, fun image a v hvalid hlo hhi hv => ?_⟩
  · rw [headerChecksum, imageBytes_eq_map, List.foldl_map]
  · rw [← Bool.not_eq_true, headerValid_iff, Memory.get_set_ne image v (by omega), ← (headerValid_iff image).mp hvalid]
    exact headerChecksum_set_ne hlo hhi hv

end Sys2Proof.Machine
end

section
/-! SUPPORT. The statements about the encoding (30_encoding.md): the decoder and the encoder are inverse to each other. -/

namespace Sys2Proof

variable {leftOut bytes rest : List Byte} {opcode : Byte} {i : Instr}

/-! ## The immediate bytes of a format (R74, R79 to R82) -/

/-- The immediate bytes a format takes from a word, low byte first. -/
def Format.immBytes : Format → Word → List Byte
  | .op, _ => []
  | .opImm8, w => [loByte w]
  | .opImm16, w => [loByte w, hiByte w]

/-- Bytes that reach a format's length begin with its immediate. -/
theorem Format.exists_immBytes_append {f : Format} (h : f.length ≤ rest.length + 1) : ∃ w tail, rest = f.immBytes w ++ tail := by
  cases f with
  | op => exact ⟨0, rest, rfl⟩
  | opImm8 =>
    match rest, h with
    | b :: tail, _ => exact ⟨zext b, tail, by simp [immBytes]⟩
  | opImm16 =>
    match rest, h with
    | lo :: hi :: tail, _ => exact ⟨join hi lo, tail, by simp [immBytes]⟩

/-! ## The instruction of an opcode and an immediate (R77, R78, R91) -/

/-- Each entry of the opcode map builds an instruction that can be encoded, whose words are the entry's opcode and immediate. -/
theorem encode_build_lookup (opcode : Byte) (w : Word) :
    encode ((lookup opcode).build opcode w) = opcode :: (lookup opcode).format.immBytes w ∧
      ((lookup opcode).build opcode w).wf = true := by
  obtain ⟨n, hn, rfl⟩ : ∃ n, n < 256 ∧ opcode = BitVec.ofNat 8 n := ⟨opcode.toNat, opcode.isLt, by simp⟩
  interval_cases n <;> exact ⟨rfl, rfl⟩

theorem loByte_surjective : Function.Surjective loByte := fun b => ⟨zext b, loByte_zext b⟩

/-- An instruction that can be encoded is built by the entry of its opcode, from some immediate. -/
theorem exists_build_lookup (h : i.wf = true) : ∃ w, (lookup i.opcode).build i.opcode w = i := by
  cases i <;> dsimp only [Instr.opcode]
  case invalid opcode => rw [Laws.lookup_unmapped opcode h]; exact ⟨0, rfl⟩
  case ldBD8 b | ldCD8 b | ldDD8 b | ldED8 b | ldHD8 b | ldLD8 b | ldAD8 b | ldIndHLD8 b | jrE8 b | jrNZE8 b | jrZE8 b
      | jrNCE8 b | jrCE8 b | ldhIndA8A b | ldhAIndA8 b | xorD8 b | ldHLSPe8 b =>
    obtain ⟨w, rfl⟩ := loByte_surjective b
    exact ⟨w, rfl⟩
  case ldBCD16 w | ldDED16 w | ldHLD16 w | ldSPD16 w | ldIndA16SP w | ldIndA16A w | ldAIndA16 w | jpA16 w | jpNZA16 w
      | jpZA16 w | jpNCA16 w | jpCA16 w | callA16 w | callNZA16 w | callZA16 w | callNCA16 w | callCA16 w =>
    exact ⟨w, rfl⟩
  all_goals exact ⟨0, rfl⟩

theorem lookupIn_leftOut (h : leftOut.contains opcode = true) : lookupIn leftOut opcode = .unmapped := if_pos h

theorem instrOf_leftOut (h : leftOut.contains opcode = true) (w : Word) : instrOf leftOut opcode w = .invalid opcode := by
  rw [instrOf, lookupIn_leftOut h]; rfl

theorem encode_instrOf (leftOut : List Byte) (opcode : Byte) (w : Word) :
    encode (instrOf leftOut opcode w) = opcode :: (lookupIn leftOut opcode).format.immBytes w := by
  cases h : leftOut.contains opcode with
  | true => rw [instrOf_leftOut h, lookupIn_leftOut h]; rfl
  | false => rw [instrOf, lookupIn_admitted h]; exact (encode_build_lookup opcode w).1

/-- An opcode left out of IMPLEMENTED_SET admits INVALID only; any other admits what can be encoded. -/
theorem admitted_iff : i.admitted leftOut = true ↔ if leftOut.contains i.opcode then i = .invalid i.opcode else i.wf = true := by
  cases i
  case invalid opcode =>
    show (unmappedOpcodes.contains opcode || leftOut.contains opcode) = true ↔ if leftOut.contains opcode then _ else _
    cases leftOut.contains opcode <;> simp [Instr.wf, Instr.opcode]
  all_goals simp [Instr.admitted, Instr.opcode, Instr.wf]

theorem instrOf_admitted (leftOut : List Byte) (opcode : Byte) (w : Word) : (instrOf leftOut opcode w).admitted leftOut = true := by
  obtain ⟨-, hopcode, -⟩ := instrOf_desc leftOut opcode w
  rw [admitted_iff, hopcode]
  cases h : leftOut.contains opcode with
  | true => exact instrOf_leftOut h w
  | false => rw [instrOf, lookupIn_admitted h]; exact (encode_build_lookup opcode w).2

theorem exists_instrOf (h : i.admitted leftOut = true) : ∃ w, instrOf leftOut i.opcode w = i := by
  rw [admitted_iff] at h
  cases hc : leftOut.contains i.opcode with
  | true => rw [if_pos hc] at h; exact ⟨0, (instrOf_leftOut hc 0).trans h.symm⟩
  | false =>
    rw [hc, if_neg Bool.false_ne_true] at h
    simpa only [instrOf, lookupIn_admitted hc] using exists_build_lookup h

/-! ## What the decoder answers (R74, R75, R186) -/

/-- The words of an opcode's instruction decode to it, whatever bytes follow. -/
theorem decodeIn_encode_instrOf (leftOut : List Byte) (opcode : Byte) (w : Word) (rest : List Byte) :
    decodeIn leftOut (encode (instrOf leftOut opcode w) ++ rest) = .instr (instrOf leftOut opcode w) rest := by
  rw [encode_instrOf, instrOf]
  cases h : lookupIn leftOut opcode with
  | op0 i => exact decodeIn_op0 h
  | op1 mk => exact decodeIn_op1 h
  | op2 mk => exact (decodeIn_op2 h).trans (by rw [join_hiByte_loByte]; rfl)
  | unmapped => exact decodeIn_unmapped h

/-- Too few bytes for the opcode's format are rejected. -/
theorem decodeIn_short (h : rest.length + 1 < (lookupIn leftOut opcode).format.length) :
    decodeIn leftOut (opcode :: rest) = .rejected .missingImmediate := by
  simp only [decodeIn]
  cases hf : (lookupIn leftOut opcode).format <;> rw [hf, Format.length] at h
  case op => omega
  case opImm8 => rw [List.eq_nil_of_length_eq_zero (by omega : rest.length = 0)]
  case opImm16 =>
    match rest, h with
    | [], _ => rfl
    | [_], _ => rfl

/-- Enough bytes for the opcode's format decode to the opcode's instruction, whose words they begin with. -/
theorem decodeIn_long (h : (lookupIn leftOut opcode).format.length ≤ rest.length + 1) :
    ∃ w tail, opcode :: rest = encode (instrOf leftOut opcode w) ++ tail ∧
      decodeIn leftOut (opcode :: rest) = .instr (instrOf leftOut opcode w) tail := by
  obtain ⟨w, tail, rfl⟩ := Format.exists_immBytes_append h
  have hwords := encode_instrOf leftOut opcode w
  exact ⟨w, tail, by rw [hwords]; rfl, by rw [← List.cons_append, ← hwords]; exact decodeIn_encode_instrOf ..⟩

/-- The decoder answers an instruction exactly when it is admitted and the bytes are its words and what is left. -/
theorem decodeIn_eq_instr_iff :
    decodeIn leftOut bytes = .instr i rest ↔ i.admitted leftOut = true ∧ encode i ++ rest = bytes := by
  constructor
  · intro h
    cases bytes with
    | nil => cases h
    | cons opcode more =>
      rcases lt_or_ge (more.length + 1) (lookupIn leftOut opcode).format.length with hshort | hlong
      · rw [decodeIn_short hshort] at h; cases h
      · obtain ⟨w, tail, hbytes, hdecode⟩ := decodeIn_long hlong
        rw [hdecode] at h; cases h
        exact ⟨instrOf_admitted .., hbytes.symm⟩
  · rintro ⟨hadmitted, rfl⟩
    obtain ⟨w, hw⟩ := exists_instrOf hadmitted
    rw [← hw]
    exact decodeIn_encode_instrOf ..

/-! ## The obligations -/

/-- Settles O14: what an IMPLEMENTED_SET admits is what its table builds, and the words of that decode to it. -/
theorem decodeOfEncode : Obligations.DecodeOfEncode :=
  fun _ _ _ hadmitted => decodeIn_eq_instr_iff.mpr ⟨hadmitted, rfl⟩

/-- Settles O15: bytes decode only when they begin with the words of what the table builds, which is admitted. -/
theorem encodeOfDecode : Obligations.EncodeOfDecode :=
  fun _ _ _ _ h => (decodeIn_eq_instr_iff.mp h).symm

/-- Settles O16: the mode's length is that of the table entry, and bytes either reach it or do not. -/
theorem decodeRejectsOnlyShortInput : Obligations.DecodeRejectsOnlyShortInput := by
  refine fun leftOut => ⟨rfl, fun opcode rest => ?_⟩
  rw [descOf_format, List.length_cons]
  refine ⟨⟨?_, fun hlong => ?_⟩, decodeIn_short⟩
  · rintro ⟨i, tail, h⟩
    by_contra hshort
    rw [decodeIn_short (not_le.mp hshort)] at h
    cases h
  · obtain ⟨w, tail, -, h⟩ := decodeIn_long hlong
    exact ⟨_, tail, h⟩

theorem unmappedOpcodes_nodup : unmappedOpcodes.Nodup := by decide

/-- Settles O17: INVALID is admitted for an unmapped opcode only, and such an opcode takes no immediate. -/
theorem invalidOpcodesAreTheListed : Obligations.InvalidOpcodesAreTheListed := by
  have hadmitted (opcode : Byte) : (Instr.invalid opcode).admitted [] = true ↔ opcode ∈ unmappedOpcodes := by
    simp [Instr.admitted]
  refine ⟨rfl, unmappedOpcodes_nodup, fun opcode lo hi => ?_⟩
  simp only [decode, decodeIn_eq_instr_iff, hadmitted]
  exact ⟨fun ⟨_, hmem, _⟩ => hmem, fun hmem => ⟨[lo, hi], hmem, rfl⟩⟩

/-- Settles O13: each of the fourteen words is looked up in the table. -/
theorem wordsOfTheTableDecode : Obligations.WordsOfTheTableDecode := by
  unfold Obligations.WordsOfTheTableDecode
  decide

end Sys2Proof
end

section
/-! SUPPORT. The statements about the step (40_step_and_addressing.md): its fetch, its outcomes, and the PC it leaves. -/

namespace Sys2Proof

/-! ## The immediate of a format, as the fetch answers it (R100) -/

/-- What reading a format's immediate bytes of `w` gives: nothing is 0, one byte is zero-extended. -/
def Format.imm : Format → Word → Word
  | .op, _ => 0
  | .opImm8, w => zext (loByte w)
  | .opImm16, w => w

/-- The instruction of an opcode depends on the bytes its format reads only. -/
theorem instrOf_imm (leftOut : List Byte) (opcode : Byte) (w : Word) :
    instrOf leftOut opcode ((lookupIn leftOut opcode).format.imm w) = instrOf leftOut opcode w := by
  unfold instrOf
  cases lookupIn leftOut opcode with
  | op0 i => rfl
  | op1 mk => exact congrArg mk (loByte_zext _)
  | op2 mk => rfl
  | unmapped => rfl

namespace Machine

variable {s : State} {addr : Word} {bytes : List Byte} {b opcode : Byte}

/-! ## Reads noted in a row do not look at PC, the ticks or the transient state -/

theorem note_with (s : State) (pc : Word) (k : Nat) (t : Transient) (x : Config.CartAccess) :
    ({ s with pc := pc, ticks := k, t := t } : State).note x = { s.note x with pc := pc, ticks := k, t := t } := by
  by_cases h : s.OpenAt x.addr
  · rw [State.note_open s h]; exact State.note_open _ h
  · rw [State.note_not_open s h]; exact State.note_not_open _ h

theorem noteReads_with (s : State) (pc : Word) (k : Nat) (t : Transient) (addr : Word) (n : Nat) :
    ({ s with pc := pc, ticks := k, t := t } : State).noteReads addr n =
      { s.noteReads addr n with pc := pc, ticks := k, t := t } := by
  induction n generalizing s addr with
  | zero => rfl
  | succ n ih => rw [State.noteReads, note_with, ih]; rfl

@[simp] theorem noteReads_params (s : State) (addr : Word) (n : Nat) : (s.noteReads addr n).params = s.params := by
  induction n generalizing s addr with
  | zero => rfl
  | succ n ih => rw [State.noteReads, ih, State.note_params]

theorem noteReads_add (s : State) (addr : Word) (m n : Nat) :
    s.noteReads addr (m + n) = (s.noteReads addr m).noteReads (addr + BitVec.ofNat 16 m) n := by
  induction m generalizing s addr with
  | zero => simp [State.noteReads]
  | succ m ih =>
    have haddr : addr + 1 + BitVec.ofNat 16 m = addr + BitVec.ofNat 16 (m + 1) := by
      rw [Nat.add_comm m 1, BitVec.ofNat_add, BitVec.add_assoc]; rfl
    rw [Nat.succ_add_eq_add_succ, Nat.add_succ, State.noteReads, ih, haddr, State.noteReads]

theorem bytesAt_with (s : State) (pc : Word) (k : Nat) (t : Transient) :
    BytesAt { s with pc := pc, ticks := k, t := t } addr bytes ↔ BytesAt s addr bytes := by
  induction bytes generalizing s addr with
  | nil => rfl
  | cons b bytes ih =>
    have hpeek : ({ s with pc := pc, ticks := k, t := t } : State).peek addr = s.peek addr :=
      peek_congr (by rfl) (by rfl) (by rfl) (by rfl) addr
    rw [BytesAt, BytesAt, note_with, ih, hpeek]

/-! ## The state after bytes at PC are read (R98, R100) -/

/-- `n` bytes at PC have been read, PC is past them, `k` ticks are emitted, and the transient state is `t`. -/
def State.pastBytes (n k : Nat) (t : Transient) (s : State) : State :=
  { s.noteReads s.pc n with pc := s.pc + BitVec.ofNat 16 n, ticks := s.ticks + k, t := t }

@[simp] theorem State.pastBytes_pc (n k : Nat) (t : Transient) : (s.pastBytes n k t).pc = s.pc + BitVec.ofNat 16 n := rfl
@[simp] theorem State.pastBytes_t (n k : Nat) (t : Transient) : (s.pastBytes n k t).t = t := rfl

@[simp] theorem State.pastBytes_params (n k : Nat) (t : Transient) : (s.pastBytes n k t).params = s.params := noteReads_params ..

theorem State.pastBytes_zero (s : State) : s.pastBytes 0 0 s.t = s := by simp [State.pastBytes, State.noteReads]

/-- Bytes read one run after the other are one run of bytes. -/
theorem State.pastBytes_pastBytes (s : State) (m n j k : Nat) (t t' : Transient) :
    (s.pastBytes m j t).pastBytes n k t' = s.pastBytes (m + n) (j + k) t' := by
  simp only [State.pastBytes, noteReads_with, noteReads_add, BitVec.ofNat_add, BitVec.add_assoc, Nat.add_assoc]

theorem peek_pastBytes (n k : Nat) (t : Transient) : (s.pastBytes n k t).peek addr = (s.noteReads s.pc n).peek addr :=
  peek_congr (by rfl) (by rfl) (by rfl) (by rfl) addr

theorem afterOpcode_eq_pastBytes (opcode : Byte) (s : State) : afterOpcode opcode s =
    s.pastBytes 1 s.params.opcodeFetchTicks
      { Transient.cleared with curOpcode := opcode, curDesc := descOf s.params.leftOut opcode, opcodePc := s.pc } := by
  simp [afterOpcode, State.pastBytes, State.noteReads, State.setT, State.tick, State.setPc]

theorem afterFetch_eq_pastBytes (i : Instr) (s : State) : afterFetch i s =
    s.pastBytes (1 + i.immBytes.length) (s.params.opcodeFetchTicks + i.immBytes.length)
      { Transient.cleared with curOpcode := i.opcode, curDesc := i.desc, opcodePc := s.pc } := by
  rw [afterFetch, State.pastBytes, encode, List.length_cons, Nat.add_comm 1, Nat.add_assoc]

/-! ## What the immediate bytes answer (R100) -/

theorem imm8_pastBytes (h : s.peek s.pc = some b) : imm8 s = .ok b (s.pastBytes 1 1 s.t) := by
  rw [imm8_ok h]
  simp [State.pastBytes, State.noteReads, State.tick, State.setPc]

/-- Where the bus gives the bytes of the format, they are the immediate. -/
theorem fetchImm_ok {w : Word} {f : Format} (hf : s.t.curDesc.mode.format = f) (h : BytesAt s s.pc (f.immBytes w)) :
    fetchImm s = .ok (f.imm w) (s.pastBytes (f.immBytes w).length (f.immBytes w).length s.t) := by
  rw [fetchImm, hf]
  cases f with
  | op => exact congrArg _ s.pastBytes_zero.symm
  | opImm8 =>
    obtain ⟨hb, -⟩ := h
    dsimp only
    rw [imm8_pastBytes hb]; rfl
  | opImm16 =>
    obtain ⟨hlo, hhi, -⟩ := h
    have hhi' : (s.pastBytes 1 1 s.t).peek (s.pastBytes 1 1 s.t).pc = some (hiByte w) := by rwa [peek_pastBytes]
    dsimp only
    rw [imm16, imm8_pastBytes hlo, Res.bind_ok, imm8_pastBytes hhi', Res.bind_ok, join_hiByte_loByte,
      State.pastBytes_pastBytes]
    rfl

/-- A first immediate byte that cannot be read raises before anything is changed. -/
theorem fetchImm_raise_first (hf : s.t.curDesc.mode.format ≠ .op) (h : ¬ Readable s.pc) :
    fetchImm s = .raise (.unsupportedRegion s.pc .read) s := by
  rw [← peek_eq_none_iff _ s] at h
  rw [fetchImm]
  cases hfmt : s.t.curDesc.mode.format with
  | op => exact absurd hfmt hf
  | opImm8 => dsimp only; rw [imm8_raise h, Res.bind_raise]
  | opImm16 => dsimp only; rw [imm16, imm8_raise h, Res.bind_raise]

/-- A second immediate byte that cannot be read raises after the first is read. -/
theorem fetchImm_raise_second (hf : s.t.curDesc.mode.format = .opImm16) (h1 : Readable s.pc) (h2 : ¬ Readable (s.pc + 1)) :
    fetchImm s = .raise (.unsupportedRegion (s.pc + 1) .read) (s.pastBytes 1 1 s.t) := by
  obtain ⟨lo, hlo⟩ := (peek_isSome_iff _ s).mpr h1
  rw [fetchImm, hf]
  dsimp only
  rw [imm16, imm8_pastBytes hlo, Res.bind_ok, imm8_raise ((peek_eq_none_iff ..).mpr h2), Res.bind_raise]
  rfl

/-! ## What the fetch answers (R97 to R100) -/

/-- Where the bytes at PC are the words of an instruction of the table, the fetch answers it. -/
theorem fetchInstr_ok {w : Word} (h : BytesAt s s.pc (encode (instrOf s.params.leftOut opcode w))) :
    fetchInstr s = .ok (instrOf s.params.leftOut opcode w) (afterFetch (instrOf s.params.leftOut opcode w) s) := by
  obtain ⟨hdesc, hopcode, -⟩ := instrOf_desc s.params.leftOut opcode w
  have hencode := encode_instrOf s.params.leftOut opcode w
  have himmBytes := (List.cons.inj hencode).2
  rw [hencode] at h
  obtain ⟨hop, himm⟩ := h
  have himm' : BytesAt (afterOpcode opcode s) (afterOpcode opcode s).pc
      ((lookupIn s.params.leftOut opcode).format.immBytes w) := by
    rw [afterOpcode_eq_pastBytes]; exact (bytesAt_with ..).mpr himm
  rw [fetchInstr_opcode hop, fetchImm_ok (descOf_format ..) himm', Res.bind_ok, State.pastBytes_params, afterOpcode_params,
    instrOf_imm, ← himmBytes, afterOpcode_eq_pastBytes, State.pastBytes_pastBytes, afterFetch_eq_pastBytes, hdesc,
    hopcode, State.pastBytes_t]

/-- Where the opcode cannot be read, the fetch raises with nothing but the transient state changed. -/
theorem fetchInstr_raise_opcode (h : ¬ Readable s.pc) :
    fetchInstr s = .raise (.unsupportedRegion s.pc .read) (s.setT { Transient.cleared with opcodePc := s.pc }) := by
  rw [fetchInstr, fetchOpcode_raise ((peek_eq_none_iff ..).mpr h), Res.bind_raise]

/-- Where the first immediate byte cannot be read, the fetch raises with PC and the ticks past the opcode. -/
theorem fetchInstr_raise_first (hop : s.peek s.pc = some opcode) (hf : (descOf s.params.leftOut opcode).mode.format ≠ .op)
    (h : ¬ Readable (s.pc + 1)) :
    fetchInstr s = .raise (.unsupportedRegion (s.pc + 1) .read) (afterOpcode opcode s) := by
  rw [fetchInstr_opcode hop, fetchImm_raise_first hf h, Res.bind_raise, afterOpcode_pc]

/-- Where the second cannot be read, it raises with PC and the ticks past the first too. -/
theorem fetchInstr_raise_second (hop : s.peek s.pc = some opcode)
    (hf : (descOf s.params.leftOut opcode).mode.format = .opImm16) (h1 : Readable (s.pc + 1)) (h2 : ¬ Readable (s.pc + 2)) :
    fetchInstr s = .raise (.unsupportedRegion (s.pc + 2) .read)
      ((afterOpcode opcode s).pastBytes 1 1 (afterOpcode opcode s).t) := by
  rw [fetchInstr_opcode hop, fetchImm_raise_second hf h1 (by rwa [afterOpcode_pc, add_one_add_one]), Res.bind_raise,
    afterOpcode_pc, add_one_add_one]

/-- Settles O20: bytes that decode are the words of the instruction the table builds, and the fetch reads them one by one. -/
theorem stepRunsTheDecodedInstruction : Obligations.StepRunsTheDecodedInstruction := by
  intro s bytes i hs hh hdecode hbytes
  obtain ⟨hadmitted, rfl⟩ := decodeIn_eq_instr_iff.mp hdecode
  obtain ⟨w, hw⟩ := exists_instrOf hadmitted
  rw [List.append_nil, ← hw] at hbytes
  have hfetch := fetchInstr_ok hbytes
  rw [hw] at hfetch
  rw [step_running hs hh, hfetch]

/-- Settles O21: each clause is the byte at which the fetch raises, and the fault drops the transient state. -/
theorem fetchFaults : Obligations.FetchFaults := by
  refine fun s hs hh => ⟨fun h => ?_, fun op hop hf h => ?_, fun op hop hf h1 h2 => ?_⟩ <;> rw [step_running hs hh]
  · rw [fetchInstr_raise_opcode h]; rfl
  · rw [fetchInstr_raise_first hop hf h, afterOpcode_eq_pastBytes]; rfl
  · rw [fetchInstr_raise_second hop hf h1 h2, afterOpcode_eq_pastBytes, State.pastBytes_pastBytes]; rfl

/-! ## The outcomes of a step (R94 to R96) -/

/-- While halted, a step only ticks. -/
theorem step_halted (hs : s.status = .running) (hh : s.halted = true) : step s = .next (s.tick Config.haltedStepTicks) := by
  unfold step; rw [hs]
  exact if_pos hh

/-- Settles O22: the number of ticks is an element of {0, 1}. -/
theorem haltedStepOnlyTicks : Obligations.HaltedStepOnlyTicks :=
  fun _ hs hh => ⟨step_halted hs hh, Nat.le_of_lt_succ Config.haltedStepTicks.isLt⟩

/-- Settles O23: the status decides before anything is fetched. -/
theorem faultedHasNoStep : Obligations.FaultedHasNoStep := by
  intro s info hs
  unfold step; rw [hs]

/-- The outcomes of a step of a running core: Next, or one of the two faults with its information. -/
def CompletesOrFaults (r : Result) : Prop :=
  (∃ s, r = .next s) ∨ (∃ opcode pc left, r = .fault (.invalidInstruction opcode pc left)) ∨
    (∃ addr access left, r = .fault (.unsupportedRegion addr access left))

theorem takeFault_completesOrFaults (info : FaultInfo) (s : State) : CompletesOrFaults (takeFault info s) := by
  cases info with
  | invalidInstruction opcode pc => exact .inr (.inl ⟨opcode, pc, _, rfl⟩)
  | unsupportedRegion addr access => exact .inr (.inr ⟨addr, access, _, rfl⟩)

theorem Res.outcome_completesOrFaults (r : Res Unit) : CompletesOrFaults r.outcome := by
  cases r with
  | ok x s => exact .inl ⟨_, rfl⟩
  | raise info s => exact takeFault_completesOrFaults info s

/-- Settles O24: what a step answers is the end of an instruction, a fault of its fetch, or a halted step. -/
theorem stepCompletesOrFaults : Obligations.StepCompletesOrFaults := by
  intro s hs
  show CompletesOrFaults (step s)
  cases hh : s.halted with
  | true => exact .inl ⟨_, step_halted hs hh⟩
  | false =>
    rw [step_running hs hh]
    cases fetchInstr s with
    | ok i s1 => dsimp only; rw [exec_eq_runDesc]; exact Res.outcome_completesOrFaults _
    | raise info s1 => exact takeFault_completesOrFaults info s1

/-! ## Only a transfer of control writes PC (R125) -/

/-- The kinds of the jumps, calls, returns and restarts. -/
def transferKinds : List Kind := [.jp, .jr, .call, .ret, .reti, .rst]

/-- An instruction of one of those kinds is a transfer. -/
theorem transfers_of_kind {i : Instr} (h : i.desc.kind ∈ transferKinds) : Transfers i := by
  cases i
  case jpA16 | jpNZA16 | jpZA16 | jpNCA16 | jpCA16 | jpHL | jrE8 | jrNZE8 | jrZE8 | jrNCE8 | jrCE8 | callA16 | callNZA16
      | callZA16 | callNCA16 | callCA16 | ret | retNZ | retZ | retNC | retC | reti | rst00 | rst08 | rst10 | rst18 | rst20
      | rst28 | rst30 | rst38 => simp [Transfers, Instr.opcode]
  all_goals exact absurd h (by simp [Instr.desc, Desc.sentinel, transferKinds])

/-- No descriptor of the table names PC as its first operand, the one that is written. -/
theorem desc_r1_ne_pc (i : Instr) : i.desc.r1 ≠ .pc := by cases i <;> exact Reg.noConfusion

/-- PC is `pc`, and the instruction that runs has the descriptor `d`. -/
def AtPc (pc : Word) (d : Desc) (s : State) : Prop := s.pc = pc ∧ s.t.curDesc = d

variable {pc v imm : Word} {d : Desc}

theorem AtPc.write {r : Reg} (hr : r ≠ .pc) (h : AtPc pc d s) : AtPc pc d (s.write r v) := by
  cases r
  case pc => exact absurd rfl hr
  all_goals exact h

theorem AtPc.busRead (h : AtPc pc d s) : (busRead addr s).Ends (AtPc pc d) := by
  rw [busRead_eq]
  split
  · simpa [Res.Ends, AtPc] using h
  · exact h

theorem AtPc.busWrite (h : AtPc pc d s) : (busWrite addr b s).Ends (AtPc pc d) := by
  by_cases hw : Writable addr
  · rw [busWrite_ok hw]; simpa [Res.Ends, AtPc] using h
  · rw [busWrite_raise hw]; exact h

theorem AtPc.write16 (h : AtPc pc d s) : (write16 addr v s).Ends (AtPc pc d) :=
  (AtPc.busWrite h).bind fun _ _ h => AtPc.busWrite h

theorem AtPc.push8 (h : AtPc pc d s) : (push8 b s).Ends (AtPc pc d) :=
  AtPc.busWrite (s := s.setSp (s.sp - 1)) h

theorem AtPc.push16 (h : AtPc pc d s) : (push16 v s).Ends (AtPc pc d) :=
  (AtPc.push8 h).bind fun _ _ h => AtPc.push8 h

theorem AtPc.pop8 (h : AtPc pc d s) : (pop8 s).Ends (AtPc pc d) :=
  (AtPc.busRead h).bind fun _ _ h => h

theorem AtPc.pop16 (h : AtPc pc d s) : (pop16 s).Ends (AtPc pc d) :=
  (AtPc.pop8 h).bind fun _ _ h => (AtPc.pop8 h).bind fun _ _ h => h

theorem AtPc.fetchFrom (h : AtPc pc d s) : (fetchFrom addr s).Ends (AtPc pc d) :=
  (AtPc.busRead h).bind fun _ _ h => h

/-- Resolve writes no register but HL. -/
theorem AtPc.resolve (h : AtPc pc d s) : (resolve imm s).Ends (AtPc pc d) := by
  unfold Sys2Proof.Machine.resolve
  dsimp only
  cases s.t.curDesc.mode
  case rMr | rA16 => exact AtPc.fetchFrom h
  case mr => exact AtPc.fetchFrom (s := s.setMemDest (s.read .hl)) h
  case rHli | rHld => exact (AtPc.fetchFrom h).bind fun _ _ h => h
  all_goals exact h

/-- Execute writes PC in the handlers of the transfers only, and where the descriptor names PC as the destination. -/
theorem AtPc.execute (h : AtPc pc d s) (hk : d.kind ∉ transferKinds) (hr : d.r1 ≠ .pc) : (execute s).Ends (AtPc pc d) := by
  have hd : s.t.curDesc = d := h.2
  subst hd
  unfold Sys2Proof.Machine.execute
  cases hkind : s.t.curDesc.kind
  case jp | jr | call | ret | reti | rst => rw [hkind] at hk; exact absurd (by decide) hk
  case nop | di | none | xor => exact h
  case ld =>
    show (handleLd s).Ends _
    unfold handleLd; dsimp only
    split
    · exact h
    · split
      · split
        · exact AtPc.write16 (s := s.tick 1) h
        · exact AtPc.busWrite h
      · exact h.write hr
  case ldh =>
    show (handleLdh s).Ends _
    unfold handleLdh
    split
    · exact (AtPc.busRead h).bind fun _ _ h => h
    · exact AtPc.busWrite h
  case push => exact AtPc.push16 h
  case pop => exact (AtPc.pop16 h).bind fun _ _ h => h.write (by rwa [h.2])
  case inc =>
    show (handleInc s).Ends _
    unfold handleInc; dsimp only
    split
    · exact (AtPc.busWrite h).bind fun _ _ h => h
    · split
      · exact AtPc.write (s := s.tick 1) hr h
      · exact AtPc.write hr h

/-- What is true of a result's last state holds of the next state, but for the transient state. -/
theorem Res.Ends.outcome {P : State → Prop} {r : Res Unit} {s' : State} (h : r.Ends P) (hn : r.outcome = .next s') :
    ∃ s, P s ∧ s' = s.discard := by
  obtain ⟨s, rfl, rfl⟩ := Res.outcome_next hn
  exact ⟨s, h, rfl⟩

/-- Settles O32: an instruction that is no transfer has another kind, and neither Resolve nor Execute writes PC for it. -/
theorem nonBranchingInstructionsLeavePcAlone : Obligations.NonBranchingInstructionsLeavePcAlone := by
  intro i s s' hi hn
  have hstart : AtPc s.pc i.desc ((latched i s).beginResolve i.desc) := by
    refine ⟨?_, rfl⟩
    unfold latched
    split <;> rfl
  have hend := (AtPc.resolve (imm := immOf i) hstart).bind fun _ _ h =>
    h.execute (fun hk => hi (transfers_of_kind hk)) (desc_r1_ne_pc i)
  rw [exec_eq_runDesc] at hn
  obtain ⟨s1, ⟨hpc, -⟩, rfl⟩ := hend.outcome hn
  exact hpc

end Machine

end Sys2Proof
end

section
/-! SUPPORT. The statements about NOP, the loads and the stores (41_load.md). -/

namespace Sys2Proof.Machine

variable {i : Instr} {s s0 : State} {r : Reg} {addr v : Word} {b : Byte}

/-! ## The registers of one byte that a load names -/

/-- The operands r of 41_load.md R128 to R132. -/
abbrev byteRegs : List Reg := [.a, .b, .c, .d, .e, .h, .l]

theorem parts_byteReg : ∀ r ∈ byteRegs, r.parts = [r] := by decide

theorem byteReg_ne_pc : ∀ r ∈ byteRegs, r ≠ .pc := by decide

/-- Such a register holds one byte. -/
theorem zext_loByte_read (hr : r ∈ byteRegs) : zext (loByte (s.read r)) = s.read r := by
  simp only [byteRegs, List.mem_cons, List.not_mem_nil, or_false] at hr
  rcases hr with rfl | rfl | rfl | rfl | rfl | rfl | rfl <;> exact congrArg zext (loByte_zext _)

/-! ## An instruction that ends with a register write -/

/-- The register reads back, and nothing else changes. -/
theorem exec_writes_reg (h : exec i s = .next (s0.write r v).discard) (hpc : r ≠ .pc) (hread : (s0.write r v).read r = v) :
    ∃ s', exec i s = .next s' ∧ s'.read r = v ∧ Changes r.parts [] s0.pc 0 s0 s' :=
  ⟨_, h, (read_discard ..).trans hread, by simpa using (Changes.refl.write r v hpc).discard⟩

/-- The same of a register of one byte. -/
theorem exec_writes_byteReg (hr : r ∈ byteRegs) (h : exec i s = .next (s0.write r (zext b)).discard) :
    ∃ s', exec i s = .next s' ∧ s'.read r = zext b ∧ Changes [r] [] s0.pc 0 s0 s' := by
  rw [← parts_byteReg r hr]
  exact exec_writes_reg h (byteReg_ne_pc r hr) (read_write_self8 s0 r b hr)

/-! ## NOP and the loads that touch no memory -/

/-- Settles O34: Resolve and Execute change the transient state only, and the end of the step discards it. -/
theorem nopDoesNothing : Obligations.NopDoesNothing :=
  fun s => ⟨s.discard, rfl, Changes.refl.discard⟩

/-- The descriptor of an instruction other than INVALID says what the instruction does. -/
theorem exec_of_desc {d : Desc} (h : i.desc = d) (hk : d.kind ≠ .none) (s : State) : exec i s = runDesc d (immOf i) s := by
  subst h
  rw [exec_eq_runDesc, latched, if_neg hk]

theorem desc_ldRegReg : ∀ form ∈ ldRegRegForms,
    form.1.desc = ⟨.ld, .rR, form.2.1, form.2.2, .none, none⟩ ∧ form.2.1 ∈ byteRegs ∧ form.2.2 ∈ byteRegs := by decide

/-- Settles O35: each row's descriptor is LD between its two registers, and the source holds one byte. -/
theorem ldRegRegCopies : Obligations.LdRegRegCopies := by
  intro form hform s
  obtain ⟨hdesc, hdst, hsrc⟩ := desc_ldRegReg form hform
  have hexec := (exec_of_desc hdesc Kind.noConfusion s).trans (run_ld_rR ..)
  rw [← zext_loByte_read hsrc] at hexec ⊢
  exact exec_writes_byteReg hdst hexec

/-- LD r,d8 writes its byte in its register. -/
theorem exec_ldRegImm (d8 : Byte) : ∀ form ∈ ldRegImmForms d8,
    form.2 ∈ byteRegs ∧ ∀ s, exec form.1 s = .next (s.write form.2 (zext d8)).discard := by
  simp only [ldRegImmForms, List.forall_mem_cons]
  refine ⟨?_, ?_, ?_, ?_, ?_, ?_, ?_, by simp⟩
  all_goals exact ⟨by decide, fun s => run_ld_rD8 s (zext d8) .none none _ .none⟩

/-- Settles O36: the row's register is of one byte. -/
theorem ldRegImmWrites : Obligations.LdRegImmWrites := by
  intro d8 form hform s
  obtain ⟨hr, hexec⟩ := exec_ldRegImm d8 form hform
  exact exec_writes_byteReg hr (hexec s)

/-- LD rr,d16 and LD SP,HL write their value in their pair. -/
theorem exec_ldPair (d16 : Word) : ∀ form ∈ ldPairForms d16, form.2.1 ∈ [Reg.bc, .de, .hl, .sp, .pc] ∧ form.2.1 ≠ .pc ∧
    form.2.2.1 = form.2.1.parts ∧ ∀ s, exec form.1 s = .next (s.write form.2.1 (form.2.2.2 s)).discard := by
  simp only [ldPairForms, List.forall_mem_cons]
  refine ⟨?_, ?_, ?_, ?_, ⟨by decide, by decide, rfl, fun s => run_ld_rR s 0 .none none .sp .hl⟩, by simp⟩
  all_goals exact ⟨by decide, by decide, rfl, fun s => run_ld_rD16 s d16 .none none _ .none⟩

/-- Settles O37: the halves the row names are what a write of the pair can change. -/
theorem ld16Writes : Obligations.Ld16Writes := by
  intro d16 form hform s
  obtain ⟨hr, hpc, hparts, hexec⟩ := exec_ldPair d16 form hform
  rw [hparts]
  exact exec_writes_reg (hexec s) hpc (read_write_self16 s _ _ hr)

/-- Settles O43: the flags are written before HL, which leaves them, and the carries are those of R122. -/
theorem ldHlSpE8AddsAndSetsFlags : Obligations.LdHlSpE8AddsAndSetsFlags := by
  intro e8 s
  have hexec := run_ld_hlSpr s (zext e8) .none none .hl .sp
  rw [loByte_zext, sprHalfCarry_eq, sprCarry_eq] at hexec
  refine ⟨_, hexec, ?_, flagsAre_ofBool false false _ _ s, ?_⟩
  · rw [read_discard]
    exact read_write_self16 _ .hl _ (by decide)
  · exact ((Changes.refl.setF _).write .hl _ (by decide)).discard.mono (by decide) (by simp)

/-! ## Loads from memory -/

section
variable {k : Byte → State → State} (h : exec i s = ((busRead addr s).bind fun b s => .ok () (k b s)).outcome)
include h

/-- A load whose address the bus reads goes on with the byte read and the access noted. -/
theorem exec_load_next (hb : s.peek addr = some b) : exec i s = .next (k b (s.note (.read addr))).discard := by
  rw [h, outcome_busRead, hb]

/-- A load whose address the bus does not read faults before anything changes (R129). -/
theorem exec_load_fault (hr : ¬ Readable addr) : exec i s = .fault (.unsupportedRegion addr .read
    (s.enterFaulted (.unsupportedRegion addr .read))) := by
  rw [h, outcome_busRead, (peek_eq_none_iff addr s).mpr hr]

end

/-- The loads of one byte read their address and write the byte in their register. -/
theorem exec_loadForms (a8 : Byte) (a16 : Word) : ∀ form ∈ loadForms a8 a16, form.2.1 ∈ byteRegs ∧
    ∀ s, exec form.1 s = ((busRead (form.2.2 s) s).bind fun b s => .ok () (s.write form.2.1 (zext b))).outcome := by
  simp only [loadForms, List.cons_append, List.nil_append, List.forall_mem_cons]
  refine ⟨?_, ?_, ?_, ?_, ?_, ?_, ?_, ?_, ?_, ?_, ⟨by decide, fun s => ?a16⟩, ⟨by decide, fun s => ?a8⟩, by simp⟩
  case a16 => exact run_ld_rA16 s a16 .none none .a .none
  case a8 => exact (run_ldh_load s (zext a8) .none none .none).trans (by rw [loByte_zext])
  all_goals exact ⟨by decide, fun s => run_ld_rMr s 0 .none none _ _⟩

/-- Settles O38: a row's register is of one byte, and its read is the first thing that can fail. -/
theorem loadsReadTheirAddress : Obligations.LoadsReadTheirAddress := by
  intro a8 a16 form hform s
  obtain ⟨hr, hexec⟩ := exec_loadForms a8 a16 form hform
  refine ⟨fun b hb => ?_, exec_load_fault (hexec s)⟩
  have hload := exec_writes_byteReg hr (exec_load_next (hexec s) hb)
  rwa [State.note_pc] at hload

/-- LD A,(HL+) and LD A,(HL-) read at HL, step it, and then write A. -/
theorem exec_hlLoadForms : ∀ form ∈ hlLoadForms, ∀ s, exec form.1 s =
    ((busRead (s.read .hl) s).bind fun b s => .ok () ((s.write .hl (s.read .hl + form.2)).write .a (zext b))).outcome := by
  simp only [hlLoadForms, List.forall_mem_cons]
  refine ⟨fun s => ?inc, fun s => ?dec, by simp⟩
  case inc => exact run_ld_rHli s 0 .none none .a .hl
  case dec => exact (run_ld_rHld s 0 .none none .a .hl).trans (by simp only [sub_eq_add_neg])

/-- Settles O39: the write of A leaves HL as the step of HL left it. -/
theorem loadsThatStepHl : Obligations.LoadsThatStepHl := by
  intro form hform s
  have hexec := exec_hlLoadForms form hform s
  refine ⟨fun b hb => ⟨_, exec_load_next hexec hb, loByte_zext b, ?_, ?_⟩, exec_load_fault hexec⟩
  · rw [State.read_note]
    exact read_write_self16 (s.note (.read (s.read .hl))) .hl _ (by decide)
  · have hframe := (((Changes.refl (s := s.note (.read (s.read .hl)))).write .hl
      ((s.note (.read (s.read .hl))).read .hl + form.2) (by decide)).write .a (zext b) (by decide)).discard
    rwa [State.note_pc] at hframe

/-! ## Stores -/

section
variable (h : exec i s = (busWrite addr b s0).outcome)
include h

/-- A store whose address the bus writes: its byte reads back. -/
theorem exec_store_next (hw : Writable addr) :
    exec i s = .next (s0.place addr b).discard ∧ (s0.place addr b).discard.Holds addr b := by
  rw [h, outcome_busWrite, if_pos hw]
  exact ⟨rfl, (holds_place hw b s0).congr rfl (peek_discard ..)⟩

/-- A store whose address the bus does not write faults and leaves what was done before it (R130). -/
theorem exec_store_fault (hw : ¬ Writable addr) : exec i s = .fault (.unsupportedRegion addr (.write b)
    (s0.enterFaulted (.unsupportedRegion addr (.write b)))) := by
  rw [h, outcome_busWrite, if_neg hw]

end

/-- A store of a register's value stores the byte it holds. -/
theorem exec_store_zext (h : exec i s = (busWrite addr (loByte (zext b)) s0).outcome) :
    exec i s = (busWrite addr b s0).outcome := by
  rwa [loByte_zext] at h

/-- The stores of one byte write their byte at their address. -/
theorem exec_storeForms (d8 a8 : Byte) (a16 : Word) : ∀ form ∈ storeForms d8 a8 a16, ∀ s,
    exec form.1 s = (busWrite (form.2.1 s) (form.2.2 s) s).outcome := by
  simp only [storeForms, List.cons_append, List.nil_append, List.forall_mem_cons]
  refine ⟨?_, ?_, ?_, ?_, ?_, ?_, ?_, fun s => ?d8, ?_, ?_, fun s => ?a16, ?_, fun s => ?a8, by simp⟩
  case d8 => exact exec_store_zext (run_ld_mrD8 s (zext d8) .none none .hl .none rfl)
  case a16 => exact exec_store_zext (run_ld_a16R s a16 .none none .none .a rfl)
  case a8 => exact (run_ldh_store s (zext a8) .none none .none .a (by decide)).trans (by rw [loByte_zext])
  all_goals exact fun s => exec_store_zext (run_ld_mrR s 0 .none none _ _ rfl)

/-- Settles O40: the bus write is all a row does. -/
theorem storesWriteTheirAddress : Obligations.StoresWriteTheirAddress := by
  intro d8 a8 a16 form hform s
  have hexec := exec_storeForms d8 a8 a16 form hform s
  refine ⟨fun hw => ?_, exec_store_fault hexec⟩
  obtain ⟨hnext, hholds⟩ := exec_store_next hexec hw
  exact ⟨_, hnext, hholds, (Changes.refl.place hw _).discard⟩

/-- LD (HL+),A and LD (HL-),A step HL, and then write A at the old HL. -/
theorem exec_hlStoreForms : ∀ form ∈ hlStoreForms, ∀ s, exec form.1 s =
    (busWrite (s.read .hl) s.a (s.write .hl (s.read .hl + form.2))).outcome := by
  simp only [hlStoreForms, List.forall_mem_cons]
  refine ⟨fun s => ?inc, fun s => ?dec, by simp⟩
  case inc => exact exec_store_zext (run_ld_hliR s 0 .none none .hl .a rfl)
  case dec => exact exec_store_zext ((run_ld_hldR s 0 .none none .hl .a rfl).trans (by rw [sub_eq_add_neg]; rfl))

/-- Settles O41: the bus write is made in the state with HL stepped, and leaves the registers. -/
theorem storesThatStepHl : Obligations.StoresThatStepHl := by
  intro form hform s
  have hexec := exec_hlStoreForms form hform s
  refine ⟨fun hw => ?_, exec_store_fault hexec⟩
  obtain ⟨hnext, hholds⟩ := exec_store_next hexec hw
  refine ⟨_, hnext, hholds, ?_, ((Changes.refl.write .hl _ (by decide)).place hw _).discard⟩
  rw [read_discard, place_read]
  exact read_write_self16 s .hl _ (by decide)

/-- LD (a16),SP writes SP after its tick. -/
theorem exec_ldIndA16SP (a16 : Word) (s : State) : exec (.ldIndA16SP a16) s = (write16 a16 s.sp (s.tick 1)).outcome :=
  run_ld_a16SP s a16 .none none .none .sp rfl

/-- A fault does not change what the bus reads. -/
@[simp] theorem peek_enterFaulted (info : FaultInfo) (s : State) (addr : Word) : (s.enterFaulted info).peek addr = s.peek addr :=
  peek_congr (by rfl) (by rfl) (by rfl) (by rfl) addr

/-- Settles O42: the three clauses are the three outcomes of the 16-bit write, the high byte's first. -/
theorem ldIndA16SpStoresSp : Obligations.LdIndA16SpStoresSp := by
  intro a16 s
  refine ⟨fun h1 h0 => ?_, fun h1 => ?_, fun h1 h0 => ?_⟩ <;> rw [exec_ldIndA16SP]
  · rw [write16_ok _ h1 h0, Res.outcome_ok]
    refine ⟨_, rfl, ?_, ?_, (((Changes.refl.tick 1).place h1 _).place h0 _).discard⟩
    · exact (holds_place h0 _ _).congr rfl (peek_discard ..)
    · exact ((holds_place h1 _ _).place h0 (add_one_ne_self a16)).congr rfl (peek_discard ..)
  · rw [write16_raise_high _ h1]; rfl
  · rw [write16_raise_low _ h1 h0]
    exact ⟨_, rfl, (holds_place h1 _ _).congr rfl (peek_enterFaulted ..)⟩

end Sys2Proof.Machine
end

section
/-! SUPPORT. The statements about jumps, calls, returns and restarts (42_control_transfer.md). -/

namespace Sys2Proof.Machine

variable {i : Instr} {s s0 : State} {lo hi : Byte} {v target : Word}

/-! ## Jumps (R151 to R155) -/

/-- A jump on a condition sets PC where it holds, and changes nothing else. -/
theorem exec_jump_changes {c : Bool} (h : exec i s = .next (if c then s.setPc target else s).discard) :
    ∃ s', exec i s = .next s' ∧ Changes [] [] (if c then target else s.pc) 0 s s' := by
  refine ⟨_, h, ?_⟩
  cases c
  case false => exact Changes.refl.discard
  case true => exact (Changes.refl.setPc target).discard

/-- The rows of JP test their condition and jump to a16. -/
theorem exec_jpForms (a16 : Word) : ∀ form ∈ jpForms a16, ∀ s,
    exec form.1 s = .next (if form.2.holds s.f then s.setPc a16 else s).discard := by
  have hrun (cond : Cond) (s : State) := run_jp_d16 s a16 cond none .none .none
  simp only [jpForms, List.forall_mem_cons]
  exact ⟨hrun .none, hrun .nz, hrun .z, hrun .nc, hrun .c, by simp⟩

/-- A sign-extended byte added to an address is the integer sum modulo 2^16 (R154). -/
theorem add_sext (w : Word) (e8 : Byte) : w + sext e8 = BitVec.ofInt 16 (w.toNat + e8.toInt) := by
  rw [BitVec.ofInt_add, BitVec.ofInt_natCast, BitVec.ofNat_toNat, BitVec.setWidth_eq]
  rfl

/-- The rows of JR test their condition and add their displacement to PC. -/
theorem exec_jrForms (e8 : Byte) : ∀ form ∈ jrForms e8, ∀ s, exec form.1 s =
    .next (if form.2.holds s.f then s.setPc (BitVec.ofInt 16 (s.pc.toNat + e8.toInt)) else s).discard := by
  have hrun (cond : Cond) (s : State) := run_jr s (zext e8) cond none .none .none
  simp only [loByte_zext, add_sext] at hrun
  simp only [jrForms, List.forall_mem_cons]
  exact ⟨hrun .none, hrun .nz, hrun .z, hrun .nc, hrun .c, by simp⟩

/-- Settles O44: the rows test their condition, and JP HL jumps as an unconditional one does. -/
theorem jumpsSetPc : Obligations.JumpsSetPc :=
  ⟨fun a16 form hform s => exec_jump_changes (exec_jpForms a16 form hform s),
    fun s => exec_jump_changes (c := true) (run_jp_r s 0 none .hl .none),
    fun e8 form hform s => exec_jump_changes (exec_jrForms e8 form hform s)⟩

/-! ## Calls and restarts (R156, R157, R162) -/

/-- An instruction that pushes a word and goes on with `k` completes where both addresses are writable. -/
theorem exec_push_next {k : State → State} (h : exec i s = ((push16 v s).bind fun _ s => .ok () (k s)).outcome)
    (h1 : Writable (s.sp - 1)) (h2 : Writable (s.sp - 2)) : exec i s = .next (k (pushed16 v s)).discard := by
  rw [h, push16_ok s h1 h2]
  rfl

/-- Where it goes on with a jump, both bytes read back and SP, the two addresses and PC are all that changes. -/
theorem exec_pushJump_changes (h : exec i s = ((push16 v s).bind fun _ s => .ok () (s.setPc target)).outcome)
    (h1 : Writable (s.sp - 1)) (h2 : Writable (s.sp - 2)) : ∃ s', exec i s = .next s' ∧
      s'.Holds (s.sp - 1) (hiByte v) ∧ s'.Holds (s.sp - 2) (loByte v) ∧ s'.sp = s.sp - 2 ∧
      Changes [.sp] [s.sp - 1, s.sp - 2] target 0 (s.notePush v) s' := by
  obtain ⟨hhi, hlo⟩ := holds_pushed16 s (v := v) h1 h2
  have hpeek (addr : Word) : ((pushed16 v s).setPc target).discard.peek addr = (pushed16 v s).peek addr := by
    rw [peek_discard, peek_setPc]
  exact ⟨_, exec_push_next h h1 h2, hhi.congr rfl (hpeek _), hlo.congr rfl (hpeek _), pushed16_sp s v,
    ((Changes.pushed16 v h1 h2).setPc target).discard⟩

/-- The rows of CALL test their condition, and push PC and jump to a16. -/
theorem exec_callForms (a16 : Word) : ∀ form ∈ callForms a16, ∀ s, exec form.1 s =
    if form.2.holds s.f then ((push16 s.pc s).bind fun _ s => .ok () (s.setPc a16)).outcome else .next s.discard := by
  have hrun (cond : Cond) (s : State) := run_call s a16 cond none .none .none
  simp only [callForms, List.forall_mem_cons]
  exact ⟨hrun .none, hrun .nz, hrun .z, hrun .nc, hrun .c, by simp⟩

/-- Settles O45: the condition decides between nothing and the push with the jump. -/
theorem callsPushPcAndJump : Obligations.CallsPushPcAndJump := by
  intro a16 form hform s
  have hexec := exec_callForms a16 form hform s
  refine ⟨fun hc => ?_, fun hc => ?_⟩ <;> rw [hc] at hexec
  · exact ⟨_, hexec, Changes.refl.discard⟩
  · exact exec_pushJump_changes hexec

/-- The rows of RST push PC and jump to their target. -/
theorem exec_rstForms : ∀ form ∈ rstForms, ∀ s,
    exec form.1 s = ((push16 s.pc s).bind fun _ s => .ok () (s.setPc form.2)).outcome := by
  simp only [rstForms, List.forall_mem_cons]
  refine ⟨?_, ?_, ?_, ?_, ?_, ?_, ?_, ?_, by simp⟩
  all_goals exact fun s => run_rst s 0 .none .none .none _

/-- Settles O48: a restart is a push of PC and a jump, as a CALL taken is. -/
theorem restartsPushPcAndJump : Obligations.RestartsPushPcAndJump :=
  fun form hform s => exec_pushJump_changes (exec_rstForms form hform s)

/-! ## Returns (R158 to R161) -/

@[simp] theorem notePop_tick (n : Nat) (s : State) : (s.tick n).notePop = s.notePop.tick n := by simp [State.notePop]

@[simp] theorem notePop_setIme (b : Bool) (s : State) : (s.setIme b).notePop = s.notePop.setIme b := by simp [State.notePop]

/-- An instruction that pops a word in the state `s0` and goes on with `k` completes where both bytes can be read. -/
theorem exec_pop_next {k : Word → State → State} (h : exec i s = ((pop16 s0).bind fun v s => .ok () (k v s)).outcome)
    (hlo : s0.peek s0.sp = some lo) (hhi : (s0.note (.read s0.sp)).peek (s0.sp + 1) = some hi) :
    exec i s = .next (k (join hi lo) (s0.notePop.setSp (s0.sp + 2))).discard := by
  rw [h, pop16_ok s0 hlo hhi]
  rfl

/-- The rows of RET pay their ticks, test their condition, and pop PC. -/
theorem exec_retForms : ∀ form ∈ retForms, ∀ s, exec form.1 s =
    if form.2.1.holds s.f then ((pop16 (s.tick form.2.2)).bind fun v s => .ok () (s.setPc v)).outcome
    else .next (s.tick form.2.2).discard := by
  have hrun (cond : Cond) (s : State) := run_ret s 0 cond none .none .none
  simp only [retForms, List.forall_mem_cons]
  exact ⟨hrun .none, hrun .nz, hrun .z, hrun .nc, hrun .c, by simp⟩

/-- Settles O46: the ticks are paid before the condition decides, and commute with the reads of the pop. -/
theorem returnsPopPc : Obligations.ReturnsPopPc := by
  intro form hform s
  have hexec := exec_retForms form hform s
  refine ⟨fun hc => ?_, fun lo hi hc hlo hhi => ?_⟩ <;> rw [hc] at hexec
  · exact ⟨_, hexec, by simpa using (Changes.refl.tick form.2.2).discard⟩
  · have hnext := exec_pop_next hexec (lo := lo) (hi := hi) (by simpa using hlo) (by simpa using hhi)
    rw [notePop_tick] at hnext
    refine ⟨_, hnext, rfl, ?_⟩
    simpa using (((Changes.refl.tick form.2.2).setSp (s.sp + 2)).setPc (join hi lo)).discard

/-- Settles O47: IME is set before the pop, and commutes with its reads. -/
theorem retiSetsImeAndReturns : Obligations.RetiSetsImeAndReturns := by
  intro s lo hi hlo hhi
  have hexec : exec .reti s = _ := run_reti s 0 .none none .none .none
  have hnext := exec_pop_next hexec (lo := lo) (hi := hi) (by simpa using hlo) (by simpa using hhi)
  rw [notePop_setIme] at hnext
  exact ⟨_, hnext, by simp, rfl, ((Changes.refl.setSp (s.sp + 2)).setPc (join hi lo)).discard⟩

end Sys2Proof.Machine
end

section
/-! SUPPORT. The statements about PUSH and POP (43_stack.md). -/

namespace Sys2Proof.Machine

variable {i : Instr} {s : State} {r : Reg} {lo hi : Byte} {v : Word}

/-! ## PUSH rr (R164) -/

/-- The rows of PUSH push their pair, and that is all they do. -/
theorem exec_pushForms : ∀ form ∈ pushForms, ∀ s, exec form.1 s = (push16 (s.read form.2) s).outcome := by
  have hrun (r : Reg) (s : State) := run_push s 0 .none none r .none
  simp only [pushForms, List.forall_mem_cons]
  exact ⟨hrun .bc, hrun .de, hrun .hl, hrun .af, by simp⟩

/-- Settles O49: a push with two writable addresses completes, and the end of the step leaves what it wrote. -/
theorem pushStoresThePair : Obligations.PushStoresThePair := by
  intro form hform s h1 h2
  have hexec := exec_pushForms form hform s
  rw [push16_ok s h1 h2, Res.outcome_ok] at hexec
  obtain ⟨hhi, hlo⟩ := holds_pushed16 s (v := s.read form.2) h1 h2
  exact ⟨_, hexec, hhi.congr rfl (peek_discard ..), hlo.congr rfl (peek_discard ..), pushed16_sp .., (Changes.pushed16 _ h1 h2).discard⟩

/-! ## POP rr (R165, R166) -/

/-- The state after a pop16 of `v`, with `v` written in `r`. -/
def poppedInto (r : Reg) (v : Word) (s : State) : State := (s.notePop.setSp (s.sp + 2)).write r v

/-- An instruction that pops a word into `r` completes in that state where both bytes can be read. -/
theorem exec_pop_poppedInto (h : exec i s = ((pop16 s).bind fun v s => .ok () (s.write r v)).outcome)
    (hlo : s.peek s.sp = some lo) (hhi : (s.note (.read s.sp)).peek (s.sp + 1) = some hi) :
    exec i s = .next (poppedInto r (join hi lo) s).discard := exec_pop_next h hlo hhi

/-- Where `r` does not name SP, SP is two above. -/
theorem poppedInto_sp (hr : .sp ∉ r.parts) : (poppedInto r v s).sp = s.sp + 2 :=
  read_write_ne .sp r v (by decide) hr

/-- Besides SP, only the registers of `r` change. -/
theorem Changes.poppedInto (r : Reg) (v : Word) (hr : r ≠ .pc) :
    Changes (r.parts ++ [.sp]) [] s.pc 0 s.notePop (poppedInto r v s) := by
  have hframe := (Changes.refl (s := s.notePop)).setSp (s.sp + 2) |>.write r v hr
  rwa [State.notePop, State.note_pc, State.note_pc] at hframe

/-- The rows of POP pop a word into their pair. -/
theorem exec_popForms : ∀ form ∈ popForms, ∀ s,
    exec form.1 s = ((pop16 s).bind fun v s => .ok () (s.write form.2.1 v)).outcome := by
  have hrun (r : Reg) (s : State) := run_pop s 0 .none none r .none
  simp only [popForms, List.forall_mem_cons]
  exact ⟨hrun .bc, hrun .de, hrun .hl, by simp⟩

/-- Each pair holds a whole word and is neither PC nor SP, and its halves are what a write of it can change. -/
theorem popForms_pair : ∀ form ∈ popForms, form.2.1 ∈ [Reg.bc, .de, .hl, .sp, .pc] ∧ form.2.1 ≠ .pc ∧ .sp ∉ form.2.1.parts ∧
    form.2.2 = form.2.1.parts := by decide

/-- POP AF pops a word into AF. -/
theorem exec_popAF (s : State) : exec .popAF s = ((pop16 s).bind fun v s => .ok () (s.write .af v)).outcome :=
  run_pop s 0 .none none .af .none

/-- Settles O50: the pair is written whole, and it is neither PC nor SP. -/
theorem popLoadsThePair : Obligations.PopLoadsThePair := by
  intro form hform s lo hi hlo hhi
  obtain ⟨hword, hpc, hsp, hparts⟩ := popForms_pair form hform
  refine ⟨_, exec_pop_poppedInto (exec_popForms form hform s) hlo hhi, ?_, poppedInto_sp hsp, ?_⟩
  · rw [read_discard]
    exact read_write_self16 _ _ _ hword
  · rw [hparts]
    exact (Changes.poppedInto form.2.1 _ hpc).discard.mono (by simp [or_comm]) (by simp)

/-- The mask of a write to F keeps the four flags of the byte and clears the rest (10_state.md R19, R20). -/
theorem flagsAre_mask (b : Byte) : FlagsAre (b &&& 0xF0) (b.getLsbD 7) (b.getLsbD 6) (b.getLsbD 5) (b.getLsbD 4) := by
  refine ⟨?_, ?_, ?_, ?_, flag_mask_low_nibble b⟩
  all_goals simp

/-- Settles O51: the write of AF splits the popped word, and masks the byte that goes to F. -/
theorem popAfMasksF : Obligations.PopAfMasksF := by
  intro s lo hi hlo hhi
  refine ⟨_, exec_pop_poppedInto (exec_popAF s) hlo hhi, hiByte_join hi lo, ?_, rfl, (Changes.poppedInto .af _ (by decide)).discard⟩
  have hf : (poppedInto .af (join hi lo) s).discard.f = lo &&& 0xF0 := congrArg (· &&& 0xF0) (loByte_join hi lo)
  rw [hf]
  exact flagsAre_mask lo

end Sys2Proof.Machine
end

section
/-! SUPPORT. The statements about INC, XOR and the flags (44_arith_logic.md). -/

namespace Sys2Proof.Machine

variable {i : Instr} {s s0 : State} {r : Reg} {f b : Byte} {addr v imm : Word} {d : Desc}

/-! ## INC r (R168) -/

/-- Every register of one byte is one the frame speaks of, and none is F. -/
theorem byteReg_frame : ∀ r ∈ byteRegs, r ∈ frameRegs ∧ r ∉ [Reg.f] ∧ .f ∉ r.parts := by decide

/-- A frame that keeps the register F keeps the byte in it. -/
theorem f_eq_of_read (h : s.read .f = s0.read .f) : s.f = s0.f := by
  simpa only [State.read, loByte_zext] using congrArg loByte h

/-- A write of a designator that does not name F leaves F. -/
theorem write_f_of_parts (h : .f ∉ r.parts) : (s.write r v).f = s.f :=
  f_eq_of_read (read_write_ne .f r v (by decide) h)

/-- Each row's descriptor is INC of its register, which is of one byte and so neither a pair nor SP. -/
theorem desc_incReg : ∀ form ∈ incRegForms, form.1.desc = ⟨.inc, .r, form.2, .none, .none, none⟩ ∧ form.2 ∈ byteRegs ∧
    (form.2 ≠ .bc ∧ form.2 ≠ .de ∧ form.2 ≠ .hl ∧ form.2 ≠ .sp) := by decide

/-- Settles O54: the register's write leaves F for the flags, whose write leaves the register. -/
theorem incRegIncrements : Obligations.IncRegIncrements := by
  intro form hform s
  obtain ⟨hdesc, hr, hpair⟩ := desc_incReg form hform
  obtain ⟨hframe, hne, hparts⟩ := byteReg_frame form.2 hr
  refine ⟨_, (exec_of_desc hdesc Kind.noConfusion s).trans (run_inc_r8 (h := hpair) ..), ?_, ?_, ?_⟩
  · rw [read_discard, (Changes.refl.incFlags _).regs_kept form.2 hframe hne, read_write_self8 s form.2 _ hr]
  · rw [← write_f_of_parts hparts (s := s)]
    exact flagsAre_inc _ _
  · have hwrite := Changes.refl.write (s := s) form.2 (zext (loByte (s.read form.2) + 1)) (byteReg_ne_pc form.2 hr)
    rw [parts_byteReg form.2 hr] at hwrite
    exact (hwrite.incFlags _).discard.mono (by simp [or_comm]) (by simp)

/-! ## INC rr (R170) -/

/-- Each row's descriptor is INC of its pair or SP, which holds a whole word and whose halves the row names. -/
theorem desc_incPair : ∀ form ∈ incPairForms, form.1.desc = ⟨.inc, .r, form.2.1, .none, .none, none⟩ ∧
    (form.2.1 = .bc ∨ form.2.1 = .de ∨ form.2.1 = .hl ∨ form.2.1 = .sp) ∧ form.2.1 ∈ [Reg.bc, .de, .hl, .sp, .pc] ∧
    form.2.1 ≠ .pc ∧ form.2.2 = form.2.1.parts := by decide

/-- Settles O56: the pair is written whole, after the tick. -/
theorem incPairIncrements : Obligations.IncPairIncrements := by
  intro form hform s
  obtain ⟨hdesc, hpair, hword, hpc, hparts⟩ := desc_incPair form hform
  rw [hparts]
  refine ⟨_, (exec_of_desc hdesc Kind.noConfusion s).trans (run_inc_r16 (h := hpair) ..), ?_, ?_⟩
  · rw [read_discard, read_write_self16 _ _ _ hword]
  · simpa using ((Changes.refl.tick 1).write form.2.1 (s.read form.2.1 + 1) hpc).discard

/-! ## INC (HL) (R169) -/

/-- A window that reads and takes no write is Echo RAM or Unusable memory: it reads 0, and no provider takes note. -/
theorem busRead_readOnly (hr : Readable addr) (hw : ¬ Writable addr) : busRead addr s = .ok 0x00 s := by
  rw [readable_iff] at hr
  rw [writable_iff] at hw
  unfold busRead
  cases hregion : region addr
  case echo | unusable => rfl
  all_goals simp [hregion] at hr hw

/-- INC (HL) reads at HL, writes there, and sets the flags last (D29). -/
theorem exec_incIndHL (s : State) : exec .incIndHL s = ((busRead (s.read .hl) s).bind fun v s =>
    (busWrite (s.read .hl) (v + 1) s).bind fun _ s => .ok () (incFlags (v + 1) s)).outcome :=
  run_inc_mr s 0 .none none .hl .none

/-- Settles O55: the read and the write complete, the read faults, or the read gives 0 and the write faults. -/
theorem incIndHlIncrements : Obligations.IncIndHlIncrements := by
  refine fun s => ⟨fun v hv hw => ?_, fun hr => ?_, fun hr hw => ?_⟩ <;> rw [exec_incIndHL]
  · rw [busRead_some hv, Res.bind_ok, State.read_note, busWrite_ok hw, Res.bind_ok, Res.outcome_ok]
    refine ⟨_, rfl, (holds_place hw _ _).congr rfl ?_, ?_, ?_⟩
    · exact (peek_discard ..).trans (peek_setF ..)
    · simpa using flagsAre_inc v ((s.note (.read (s.read .hl))).place (s.read .hl) (v + 1))
    · simpa using ((Changes.refl (s := s.note (.read (s.read .hl)))).place hw (v + 1)).incFlags (v + 1) |>.discard
  · rw [busRead_none ((peek_eq_none_iff ..).mpr hr)]; rfl
  · rw [busRead_readOnly hr hw, Res.bind_ok, busWrite_raise hw]; rfl

/-! ## XOR (R171 to R174) -/

/-- An instruction that ends with XOR's writes of A and the flags, in a state `s0`. -/
theorem exec_xor_changes (h : exec i s = .next (xorFlags (s0.a ^^^ b) (s0.write .a (zext (s0.a ^^^ b)))).discard) :
    ∃ s', exec i s = .next s' ∧ s'.a = s0.a ^^^ b ∧ FlagsAre s'.f (s0.a == b) false false false ∧
      Changes [.a, .f] [] s0.pc 0 s0 s' :=
  ⟨_, h, loByte_zext _, flagsAre_xor s0.a b _,
    ((Changes.refl.write .a _ (by decide)).xorFlags _).discard.mono (by decide) (by simp)⟩

/-- The rows of XOR write the exclusive-or of A and their operand in A, and then the flags. -/
theorem exec_xorForms (d8 : Byte) : ∀ form ∈ xorForms d8, ∀ s, exec form.1 s =
    .next (xorFlags (s.a ^^^ form.2 s) (s.write .a (zext (s.a ^^^ form.2 s)))).discard := by
  have hreg (r : Reg) (operand : State → Byte) (hread : ∀ s : State, s.read r = zext (operand s)) (s : State) :
      runDesc ⟨.xor, .rR, .a, r, .none, none⟩ 0 s =
        .next (xorFlags (s.a ^^^ operand s) (s.write .a (zext (s.a ^^^ operand s)))).discard := by
    rw [run_xor_rR, hread, loByte_zext]
  simp only [xorForms, List.forall_mem_cons]
  refine ⟨hreg .b _ ?_, hreg .c _ ?_, hreg .d _ ?_, hreg .e _ ?_, hreg .h _ ?_, hreg .l _ ?_, hreg .a _ ?_, fun s => ?d8, by simp⟩
  case d8 => exact (run_xor_rD8 s (zext d8) .none none .a .none).trans (by rw [loByte_zext])
  all_goals exact fun _ => rfl

/-- Settles O57: the rows end with XOR's writes. -/
theorem xorExclusiveOrs : Obligations.XorExclusiveOrs :=
  fun d8 form hform s => exec_xor_changes (exec_xorForms d8 form hform s)

/-- XOR (HL) reads at HL, and ends with XOR's writes. -/
theorem exec_xorIndHL (s : State) : exec .xorIndHL s = ((busRead (s.read .hl) s).bind fun b s =>
    .ok () (xorFlags (s.a ^^^ b) (s.write .a (zext (s.a ^^^ b))))).outcome :=
  run_xor_rMr s 0 .none none .a .hl

/-- Settles O58: the read is the first thing that can fail, and leaves A and PC. -/
theorem xorIndHlExclusiveOrs : Obligations.XorIndHlExclusiveOrs := by
  refine fun s => ⟨fun b hb => ?_, exec_load_fault (exec_xorIndHL s)⟩
  have hxor := exec_xor_changes (exec_load_next (exec_xorIndHL s) hb)
  rwa [State.note_a, State.note_pc] at hxor

/-! ## Only the listed instructions write flags (R175) -/

/-- The descriptors that no handler writes F for: not INC or XOR, not LD HL,SP+e8, and no destination that holds F. PUSH AF
names AF as what it pushes. -/
structure KeepsFlags (d : Desc) : Prop where
  kind : d.kind ≠ .inc ∧ d.kind ≠ .xor
  mode : d.mode ≠ .hlSpr
  r1 : d.kind = .push ∨ .f ∉ d.r1.parts

theorem f_notMem_parts (haf : r ≠ .af) (hf : r ≠ .f) : .f ∉ r.parts := by
  cases r
  case af => exact absurd rfl haf
  case f => exact absurd rfl hf
  all_goals decide

/-- Every instruction is listed, an INC rr, or has such a descriptor. -/
theorem writesFlags_or_keepsFlags (i : Instr) :
    WritesFlags i ∨ (∃ form ∈ incPairForms, form.1 = i) ∨ KeepsFlags i.desc := by
  cases i
  case incB | incC | incD | incE | incH | incL | incA | incIndHL | xorB | xorC | xorD | xorE | xorH | xorL | xorA | xorIndHL
      | xorD8 | ldHLSPe8 | popAF => exact .inl (by simp [WritesFlags, Instr.opcode])
  case incBC | incDE | incHL | incSP => exact .inr (.inl (by simp [incPairForms]))
  case pushAF => exact .inr (.inr ⟨⟨Kind.noConfusion, Kind.noConfusion⟩, Mode.noConfusion, .inl rfl⟩)
  all_goals exact .inr (.inr ⟨⟨Kind.noConfusion, Kind.noConfusion⟩, Mode.noConfusion,
    .inr (f_notMem_parts Reg.noConfusion Reg.noConfusion)⟩)

/-- `P` is kept by what a bus access or the stack helper changes: the record of accesses, the bytes stored, and SP. Unlike
with `Stable`, P may speak of every other register and of the transient state. -/
structure AccessStable (P : State → Prop) : Prop where
  note : ∀ x s, P s → P (s.note x)
  place : ∀ a b s, P s → P (s.place a b)
  setSp : ∀ v s, P s → P (s.setSp v)

section
variable {P : State → Prop} (hP : AccessStable P)
include hP

theorem AccessStable.busRead (h : P s) : (busRead addr s).Ends P := by
  rw [busRead_eq]
  split
  · exact hP.note _ _ h
  · exact h

theorem AccessStable.busWrite (h : P s) : (busWrite addr b s).Ends P := by
  by_cases hw : Writable addr
  · rw [busWrite_ok hw]; exact hP.place _ _ _ h
  · rw [busWrite_raise hw]; exact h

theorem AccessStable.write16 (h : P s) : (write16 addr v s).Ends P :=
  (hP.busWrite h).bind fun _ _ h => hP.busWrite h

theorem AccessStable.push16 (h : P s) : (push16 v s).Ends P :=
  Res.Ends.bind (hP.busWrite (hP.setSp _ _ h)) fun _ _ h => hP.busWrite (hP.setSp _ _ h)

theorem AccessStable.pop8 (h : P s) : (pop8 s).Ends P :=
  (hP.busRead h).bind fun _ _ h => hP.setSp _ _ h

theorem AccessStable.pop16 (h : P s) : (pop16 s).Ends P :=
  (hP.pop8 h).bind fun _ _ h => (hP.pop8 h).bind fun _ _ h => h

end

/-- F is `f`, and the instruction that runs has the descriptor `d`. -/
def HasFlags (f : Byte) (d : Desc) (s : State) : Prop := s.f = f ∧ s.t.curDesc = d

theorem accessStable_hasFlags (f : Byte) (d : Desc) : AccessStable (HasFlags f d) where
  note x s h := by rwa [HasFlags, State.note_f, State.note_t]
  place a b s h := by rwa [HasFlags, place_f, place_t]
  setSp _ _ h := h

theorem HasFlags.write (hr : .f ∉ r.parts) (h : HasFlags f d s) : HasFlags f d (s.write r v) := by
  rwa [HasFlags, write_f_of_parts hr, State.write_t]

theorem HasFlags.fetchFrom (h : HasFlags f d s) : (fetchFrom addr s).Ends (HasFlags f d) :=
  ((accessStable_hasFlags f d).busRead h).bind fun _ _ h => h

/-- Resolve writes no register but HL. -/
theorem HasFlags.resolve (h : HasFlags f d s) : (resolve imm s).Ends (HasFlags f d) := by
  unfold Sys2Proof.Machine.resolve
  dsimp only
  cases s.t.curDesc.mode
  case rMr | rA16 => exact HasFlags.fetchFrom h
  case mr => exact HasFlags.fetchFrom (s := s.setMemDest (s.read .hl)) h
  case rHli | rHld => exact (HasFlags.fetchFrom h).bind fun _ _ h => h
  all_goals exact h

/-- Execute writes F in the handlers of INC and XOR, in that of LD HL,SP+e8, and where the destination holds F. -/
theorem HasFlags.execute (h : HasFlags f d s) (hd : KeepsFlags d) : (execute s).Ends (HasFlags f d) := by
  have hP := accessStable_hasFlags f d
  obtain ⟨⟨hinc, hxor⟩, hmode, hr1⟩ := hd
  have hdesc : s.t.curDesc = d := h.2
  subst hdesc
  unfold Sys2Proof.Machine.execute
  cases hkind : s.t.curDesc.kind <;> rw [hkind] at hr1
  case inc => exact absurd hkind hinc
  case xor => exact absurd hkind hxor
  case nop | di | none => exact h
  case ld =>
    show (handleLd s).Ends _
    unfold handleLd
    dsimp only
    rw [if_neg hmode]
    split_ifs
    · exact hP.write16 (s := s.tick 1) h
    · exact hP.busWrite h
    · exact h.write (hr1.resolve_left Kind.noConfusion)
  case ldh =>
    show (handleLdh s).Ends _
    unfold handleLdh
    split
    · exact (hP.busRead h).bind fun _ _ h => h
    · exact hP.busWrite h
  case jp | jr | call =>
    show (handleBranch s).Ends _
    unfold handleBranch
    extract_lets d target
    by_cases hc : d.cond.holds s.f = true
    · rw [if_pos hc]
      by_cases hcall : d.kind = .call
      · rw [if_pos hcall]; exact (hP.push16 h).bind fun _ _ h => h
      · rw [if_neg hcall]; exact h
    · rw [if_neg hc]; exact h
  case ret =>
    show (handleRet s).Ends _
    unfold handleRet
    extract_lets d s1
    have h1 : HasFlags f s.t.curDesc s1 := by unfold s1; split <;> exact h
    split
    · exact (hP.pop16 h1).bind fun _ _ h => h
    · exact h1
  case reti => exact (hP.pop16 (s := s.setIme true) h).bind fun _ _ h => h
  case rst => exact (hP.push16 h).bind fun _ _ h => h
  case push => exact hP.push16 h
  case pop =>
    refine (hP.pop16 h).bind fun _ _ h => h.write ?_
    rw [h.2]
    exact hr1.resolve_left Kind.noConfusion

/-- An instruction with such a descriptor keeps F. -/
theorem exec_keepsFlags {s' : State} (hd : KeepsFlags i.desc) (h : exec i s = .next s') : s'.f = s.f := by
  have hstart : HasFlags s.f i.desc ((latched i s).beginResolve i.desc) := by
    refine ⟨?_, rfl⟩
    unfold latched
    split <;> rfl
  have hend := hstart.resolve (imm := immOf i) |>.bind fun _ _ h => h.execute hd
  rw [exec_eq_runDesc] at h
  obtain ⟨s1, ⟨hf, -⟩, rfl⟩ := hend.outcome h
  exact hf

/-- INC rr keeps F: F is none of the registers its row names. -/
theorem exec_incPair_keepsFlags {form : Instr × Reg × List Reg} (hform : form ∈ incPairForms) {s' : State}
    (h : exec form.1 s = .next s') : s'.f = s.f := by
  obtain ⟨s1, hexec, -, hframe⟩ := incPairIncrements form hform s
  rw [h] at hexec
  cases hexec
  have hf : ∀ form ∈ incPairForms, Reg.f ∉ form.2.2 := by decide
  exact f_eq_of_read (hframe.regs_kept .f (by decide) (hf form hform))

/-- Settles O30: an instruction that is not listed is an INC rr, or no handler writes F for its descriptor. -/
theorem onlyListedInstructionsWriteFlags : Obligations.OnlyListedInstructionsWriteFlags := by
  intro i s s' hi h
  obtain hlisted | ⟨form, hform, rfl⟩ | hd := writesFlags_or_keepsFlags i
  · exact absurd hlisted hi
  · exact exec_incPair_keepsFlags hform h
  · exact exec_keepsFlags hd h

end Sys2Proof.Machine
end

section
/-! SUPPORT. The statements about DI, INVALID and what no instruction changes (45_system.md). -/

namespace Sys2Proof.Machine

/-! ## Halted, the parameters and the status (R178) -/

/-- Settles O27: a step only starts in a running core, and what these three fields hold is stable. -/
theorem stepKeepsHaltedAndParams : Obligations.StepKeepsHaltedAndParams := by
  intro s s' h
  have hrunning : s.status = .running := (step_next h).1
  have hstable := stable_control fun _ halted status params => halted = s.halted ∧ params = s.params ∧ status = .running
  exact step_stable hstable (fun _ _ h => h) ⟨rfl, rfl, hrunning⟩ h

/-! ## DI (R176) -/

/-- Settles O59: apart from its write of IME, DI only discards the transient state. -/
theorem diClearsIme : Obligations.DiClearsIme :=
  fun s => ⟨_, exec_di s, rfl, (Changes.refl (s := s.setIme false)).discard⟩

/-! ## INVALID (R177) -/

/-- The sentinel resolves no operand, and its handler is all it runs. -/
theorem run_sentinel (imm : Word) (s : State) :
    runDesc Desc.sentinel imm s = (handleNone (s.beginResolve Desc.sentinel)).outcome := rfl

/-- INVALID latches its opcode and runs the sentinel. -/
theorem exec_invalid (opcode : Byte) (s : State) : exec (.invalid opcode) s =
    (handleNone ((s.setCurOpcode opcode).beginResolve Desc.sentinel)).outcome := run_sentinel 0 _

/-- Settles O60: the sentinel's handler raises with the latched opcode and address, and the fault discards the transient
state, which is all that INVALID wrote. -/
theorem invalidAlwaysFaults : Obligations.InvalidAlwaysFaults := by
  intro opcode s
  rw [exec_invalid, handleNone]
  exact takeFault_invalid ..

end Sys2Proof.Machine
end

section
/-! SUPPORT. The statements about faults, and about what decides nothing (60_exceptions.md). -/

namespace Sys2Proof.Machine

variable {s s' : State} {i : Instr}

/-! ## Two runs side by side (R184) -/

/-- The second state differs from the first in IME and the ticks at most. -/
def AgreeButImeTicks (s s' : State) : Prop := ∃ ime ticks, s' = { s with ime := ime, ticks := ticks }

/-- Two operations ended alike: with one value or one fault, in states that differ in IME and the ticks at most. -/
inductive Res.Alike {α : Type} : Res α → Res α → Prop
  | ok (x : α) {s s' : State} (h : AgreeButImeTicks s s') : Alike (.ok x s) (.ok x s')
  | raise (info : FaultInfo) {s s' : State} (h : AgreeButImeTicks s s') : Alike (.raise info s) (.raise info s')

/-- Operations that end alike go on alike. -/
theorem Res.Alike.bind {α β : Type} {r r' : Res α} {k k' : α → State → Res β} (hr : r.Alike r')
    (hk : ∀ x s s', AgreeButImeTicks s s' → (k x s).Alike (k' x s')) : (r.bind k).Alike (r'.bind k') := by
  cases hr with
  | ok x h => exact hk x _ _ h
  | raise info h => exact .raise info h

/-- A fault taken in two such states is the same fault, and the states it leaves are two such states. -/
theorem AgreeButImeTicks.takeFault (info : FaultInfo) (h : AgreeButImeTicks s s') :
    SameButImeTicks (takeFault info s) (takeFault info s') := by
  have hleft : AgreeButImeTicks (s.enterFaulted info) (s'.enterFaulted info) := by
    obtain ⟨ime, ticks, rfl⟩ := h
    exact ⟨ime, ticks, rfl⟩
  cases info with
  | invalidInstruction => exact ⟨rfl, rfl, hleft⟩
  | unsupportedRegion => exact ⟨rfl, rfl, hleft⟩

/-- Operations that ended alike end a step with the same outcome. -/
theorem Res.Alike.outcome {r r' : Res Unit} (h : r.Alike r') : SameButImeTicks r.outcome r'.outcome := by
  cases h with
  | ok x h =>
    obtain ⟨ime, ticks, rfl⟩ := h
    exact ⟨ime, ticks, rfl⟩
  | raise info h => exact h.takeFault info

/-! ## The updates and the bus -/

namespace AgreeButImeTicks

/-- What does not look at IME and the ticks reads the same of both states. -/
theorem read_eq {α : Type} {f : State → α} (h : AgreeButImeTicks s s')
    (hf : ∀ ime ticks, f { s with ime := ime, ticks := ticks } = f s) : f s' = f s := by
  obtain ⟨ime, ticks, rfl⟩ := h
  exact hf ime ticks

/-- An update of other fields than IME and the ticks. -/
theorem map {f : State → State} (h : AgreeButImeTicks s s')
    (hf : ∀ ime ticks, f { s with ime := ime, ticks := ticks } = { f s with ime := ime, ticks := ticks }) :
    AgreeButImeTicks (f s) (f s') := by
  obtain ⟨ime, ticks, rfl⟩ := h
  exact ⟨ime, ticks, hf ime ticks⟩

theorem write (r : Reg) (v : Word) (h : AgreeButImeTicks s s') : AgreeButImeTicks (s.write r v) (s'.write r v) :=
  h.map fun _ _ => by cases r <;> rfl

theorem setPc (v : Word) (h : AgreeButImeTicks s s') : AgreeButImeTicks (s.setPc v) (s'.setPc v) := h.map fun _ _ => rfl

theorem setFetched (v : Word) (h : AgreeButImeTicks s s') : AgreeButImeTicks (s.setFetched v) (s'.setFetched v) :=
  h.map fun _ _ => rfl

theorem incFlags (res : Byte) (h : AgreeButImeTicks s s') : AgreeButImeTicks (incFlags res s) (incFlags res s') :=
  h.map fun _ _ => rfl

theorem beginResolve (d : Desc) (h : AgreeButImeTicks s s') : AgreeButImeTicks (s.beginResolve d) (s'.beginResolve d) :=
  h.map fun _ _ => rfl

theorem decodePhase (h : AgreeButImeTicks s s') : AgreeButImeTicks (decodePhase s) (decodePhase s') := h.map fun _ _ => rfl

theorem tick (n : Nat) (h : AgreeButImeTicks s s') : AgreeButImeTicks (s.tick n) (s'.tick n) := by
  obtain ⟨ime, ticks, rfl⟩ := h
  exact ⟨ime, ticks + n, rfl⟩

theorem setIme (b : Bool) (h : AgreeButImeTicks s s') : AgreeButImeTicks (s.setIme b) (s'.setIme b) := by
  obtain ⟨ime, ticks, rfl⟩ := h
  exact ⟨b, ticks, rfl⟩

theorem sp_eq (h : AgreeButImeTicks s s') : s'.sp = s.sp := h.read_eq (f := State.sp) fun _ _ => rfl

theorem pc_eq (h : AgreeButImeTicks s s') : s'.pc = s.pc := h.read_eq (f := State.pc) fun _ _ => rfl

theorem desc_eq (h : AgreeButImeTicks s s') : s'.t.curDesc = s.t.curDesc := h.read_eq (f := (·.t.curDesc)) fun _ _ => rfl

theorem openAt_iff (h : AgreeButImeTicks s s') (addr : Word) : s'.OpenAt addr ↔ s.OpenAt addr := by
  rw [State.OpenAt, State.OpenAt, h.read_eq (f := State.params) fun _ _ => rfl]

theorem note (x : Config.CartAccess) (h : AgreeButImeTicks s s') : AgreeButImeTicks (s.note x) (s'.note x) := by
  by_cases ho : s.OpenAt x.addr
  · rw [State.note_open s ho, State.note_open s' ((h.openAt_iff _).mpr ho)]
    exact h.map (f := fun s => { s with cartLog := x :: s.cartLog }) fun _ _ => rfl
  · rwa [State.note_not_open s ho, State.note_not_open s' (mt (h.openAt_iff _).mp ho)]

theorem peek_eq (h : AgreeButImeTicks s s') (addr : Word) : s'.peek addr = s.peek addr :=
  h.read_eq (f := (·.peek addr)) fun _ _ => peek_congr (by rfl) (by rfl) (by rfl) (by rfl) addr

theorem place (addr : Word) (b : Byte) (h : AgreeButImeTicks s s') : AgreeButImeTicks (s.place addr b) (s'.place addr b) := by
  by_cases ho : s.OpenAt addr
  · rw [place_open ho, place_open ((h.openAt_iff _).mpr ho)]
    exact h.note _
  · rw [place_eq, place_eq, if_neg ho, if_neg (mt (h.openAt_iff _).mp ho)]
    split_ifs
    · exact h.map fun _ _ => rfl
    · exact h.map fun _ _ => rfl
    · exact h

theorem busRead (addr : Word) (h : AgreeButImeTicks s s') : (busRead addr s).Alike (busRead addr s') := by
  rw [busRead_eq, busRead_eq, h.peek_eq]
  split
  · exact .ok _ (h.note _)
  · exact .raise _ h

theorem busWrite (addr : Word) (b : Byte) (h : AgreeButImeTicks s s') : (busWrite addr b s).Alike (busWrite addr b s') := by
  by_cases hw : Writable addr
  · rw [busWrite_ok hw, busWrite_ok hw]; exact .ok _ (h.place addr b)
  · rw [busWrite_raise hw, busWrite_raise hw]; exact .raise _ h

theorem write16 (addr v : Word) (h : AgreeButImeTicks s s') : (write16 addr v s).Alike (write16 addr v s') :=
  (h.busWrite ..).bind fun _ _ _ h => h.busWrite ..

theorem setSp_sub_one (h : AgreeButImeTicks s s') : AgreeButImeTicks (s.setSp (s.sp - 1)) (s'.setSp (s'.sp - 1)) :=
  h.map (f := fun s => s.setSp (s.sp - 1)) fun _ _ => rfl

theorem setSp_add_one (h : AgreeButImeTicks s s') : AgreeButImeTicks (s.setSp (s.sp + 1)) (s'.setSp (s'.sp + 1)) :=
  h.map (f := fun s => s.setSp (s.sp + 1)) fun _ _ => rfl

theorem push8 (b : Byte) (h : AgreeButImeTicks s s') : (push8 b s).Alike (push8 b s') := by
  unfold Machine.push8
  dsimp only
  rw [h.setSp_sub_one.sp_eq]
  exact h.setSp_sub_one.busWrite ..

theorem push16 (v : Word) (h : AgreeButImeTicks s s') : (push16 v s).Alike (push16 v s') :=
  (h.push8 _).bind fun _ _ _ h => h.push8 _

theorem pop8 (h : AgreeButImeTicks s s') : (pop8 s).Alike (pop8 s') := by
  unfold Machine.pop8
  rw [h.sp_eq]
  exact (h.busRead _).bind fun _ _ _ h => .ok _ h.setSp_add_one

theorem pop16 (h : AgreeButImeTicks s s') : (pop16 s).Alike (pop16 s') :=
  h.pop8.bind fun _ _ _ h => h.pop8.bind fun _ _ _ h => .ok _ h

theorem fetchFrom (addr : Word) (h : AgreeButImeTicks s s') : (fetchFrom addr s).Alike (fetchFrom addr s') :=
  (h.busRead _).bind fun _ _ _ h => .ok _ (h.setFetched _)

/-! ## Resolve and Execute -/

theorem resolve (imm : Word) (h : AgreeButImeTicks s s') : (resolve imm s).Alike (resolve imm s') := by
  obtain ⟨ime, ticks, rfl⟩ := h
  unfold Machine.resolve
  dsimp only
  cases s.t.curDesc.mode
  case rMr => exact fetchFrom (ind s.t.curDesc.r2 s) ⟨ime, ticks, rfl⟩
  case rA16 => exact fetchFrom imm ⟨ime, ticks, rfl⟩
  case mr => exact fetchFrom (s.read .hl) (s := s.setMemDest (s.read .hl)) ⟨ime, ticks, rfl⟩
  case rHli =>
    refine (fetchFrom (s.read .hl) ⟨ime, ticks, rfl⟩).bind fun _ _ _ h => .ok _ ?_
    exact h.map (f := fun s => s.write .hl (s.read .hl + 1)) fun _ _ => rfl
  case rHld =>
    refine (fetchFrom (s.read .hl) ⟨ime, ticks, rfl⟩).bind fun _ _ _ h => .ok _ ?_
    exact h.map (f := fun s => s.write .hl (s.read .hl - 1)) fun _ _ => rfl
  all_goals exact .ok _ ⟨ime, ticks, rfl⟩

theorem handleLd (h : AgreeButImeTicks s s') : (handleLd s).Alike (handleLd s') := by
  obtain ⟨ime, ticks, rfl⟩ := h
  dsimp only [Machine.handleLd]
  split_ifs
  · exact .ok _ ⟨ime, ticks, rfl⟩
  · exact write16 s.t.memDest s.t.fetched ⟨ime, _, rfl⟩
  · exact busWrite s.t.memDest _ ⟨ime, ticks, rfl⟩
  · exact .ok _ (write _ _ ⟨ime, ticks, rfl⟩)

theorem handleLdh (h : AgreeButImeTicks s s') : (handleLdh s).Alike (handleLdh s') := by
  obtain ⟨ime, ticks, rfl⟩ := h
  dsimp only [Machine.handleLdh]
  split_ifs
  · exact (busRead s.t.fetched ⟨ime, ticks, rfl⟩).bind fun _ _ _ h => .ok _ (h.write ..)
  · exact busWrite s.t.memDest s.a ⟨ime, ticks, rfl⟩

/-- A push followed by a jump: a CALL taken, and RST. -/
theorem pushThenSetPc (v target : Word) (h : AgreeButImeTicks s s') :
    ((Machine.push16 v s).bind fun _ s => Res.ok () (s.setPc target)).Alike
      ((Machine.push16 v s').bind fun _ s => Res.ok () (s.setPc target)) :=
  (h.push16 v).bind fun _ _ _ h => .ok _ (h.setPc target)

/-- A pop followed by a jump: a RET taken, and RETI. -/
theorem popThenSetPc (h : AgreeButImeTicks s s') :
    ((Machine.pop16 s).bind fun v s => Res.ok () (s.setPc v)).Alike
      ((Machine.pop16 s').bind fun v s => Res.ok () (s.setPc v)) :=
  h.pop16.bind fun _ _ _ h => .ok _ (h.setPc _)

theorem handleBranch (h : AgreeButImeTicks s s') : (handleBranch s).Alike (handleBranch s') := by
  obtain ⟨ime, ticks, rfl⟩ := h
  dsimp only [Machine.handleBranch]
  generalize (if s.t.curDesc.kind = .jr then s.pc + sext (loByte s.t.fetched) else s.t.fetched) = target
  split
  · split
    · exact pushThenSetPc s.pc target ⟨ime, ticks, rfl⟩
    · exact .ok _ ⟨ime, ticks, rfl⟩
  · exact .ok _ ⟨ime, ticks, rfl⟩

/-- The end of RET, after its tick: the condition reads F, which agrees. -/
theorem returnIf (cond : Cond) (h : AgreeButImeTicks s s') :
    (if cond.holds s.f then (Machine.pop16 s).bind fun v s => Res.ok () (s.setPc v) else .ok () s).Alike
      (if cond.holds s'.f then (Machine.pop16 s').bind fun v s => Res.ok () (s.setPc v) else .ok () s') := by
  rw [h.read_eq (f := State.f) fun _ _ => rfl]
  split
  · exact h.popThenSetPc
  · exact .ok _ h

theorem handleRet (h : AgreeButImeTicks s s') : (handleRet s).Alike (handleRet s') := by
  unfold Machine.handleRet
  rw [h.desc_eq]
  by_cases hcond : s.t.curDesc.cond = .none
  · simpa only [if_pos hcond] using h.returnIf _
  · simpa only [if_neg hcond] using (h.tick 1).returnIf _

theorem handleReti (h : AgreeButImeTicks s s') : (handleReti s).Alike (handleReti s') := (h.setIme true).popThenSetPc

theorem handleRst (h : AgreeButImeTicks s s') : (handleRst s).Alike (handleRst s') := by
  unfold Machine.handleRst
  rw [h.pc_eq]
  refine (h.push16 _).bind fun _ _ _ h => ?_
  rw [h.desc_eq]
  exact .ok _ (h.setPc _)

theorem handlePop (h : AgreeButImeTicks s s') : (handlePop s).Alike (handlePop s') := by
  refine h.pop16.bind fun _ _ _ h => ?_
  rw [h.desc_eq]
  exact .ok _ (h.write ..)

theorem handleInc (h : AgreeButImeTicks s s') : (handleInc s).Alike (handleInc s') := by
  obtain ⟨ime, ticks, rfl⟩ := h
  dsimp only [Machine.handleInc]
  split_ifs
  · exact (busWrite s.t.memDest _ ⟨ime, ticks, rfl⟩).bind fun _ _ _ h => .ok _ (h.incFlags _)
  · exact .ok _ (write _ _ ⟨ime, _, rfl⟩)
  · exact .ok _ (incFlags _ (write _ _ ⟨ime, ticks, rfl⟩))

theorem execute (h : AgreeButImeTicks s s') : (execute s).Alike (execute s') := by
  unfold Machine.execute
  rw [h.desc_eq]
  cases s.t.curDesc.kind
  case nop => exact .ok _ h
  case ld => exact h.handleLd
  case ldh => exact h.handleLdh
  case jp | jr | call => exact h.handleBranch
  case ret => exact h.handleRet
  case reti => exact h.handleReti
  case rst => exact h.handleRst
  case push =>
    obtain ⟨ime, ticks, rfl⟩ := h
    exact push16 s.t.fetched ⟨ime, ticks, rfl⟩
  case pop => exact h.handlePop
  case inc => exact h.handleInc
  case xor =>
    obtain ⟨ime, ticks, rfl⟩ := h
    exact .ok _ ⟨ime, ticks, rfl⟩
  case di => exact .ok _ (h.setIme false)
  case none =>
    obtain ⟨ime, ticks, rfl⟩ := h
    exact .raise _ ⟨ime, ticks, rfl⟩

/-! ## The fetch -/

theorem fetchOpcode (h : AgreeButImeTicks s s') : (fetchOpcode s).Alike (fetchOpcode s') := by
  obtain ⟨ime, ticks, rfl⟩ := h
  refine (busRead s.pc (s := s.setT { Transient.cleared with opcodePc := s.pc }) ⟨ime, ticks, rfl⟩).bind fun _ _ _ h => ?_
  obtain ⟨ime, ticks, rfl⟩ := h
  exact .ok _ ⟨ime, _, rfl⟩

theorem imm8 (h : AgreeButImeTicks s s') : (imm8 s).Alike (imm8 s') := by
  unfold Machine.imm8
  rw [h.pc_eq]
  refine (h.busRead _).bind fun _ _ _ h => .ok _ ?_
  rw [h.pc_eq]
  exact (h.setPc _).tick 1

theorem imm16 (h : AgreeButImeTicks s s') : (imm16 s).Alike (imm16 s') :=
  h.imm8.bind fun _ _ _ h => h.imm8.bind fun _ _ _ h => .ok _ h

theorem fetchImm (h : AgreeButImeTicks s s') : (fetchImm s).Alike (fetchImm s') := by
  unfold Machine.fetchImm
  rw [h.desc_eq]
  cases s.t.curDesc.mode.format with
  | op => exact .ok _ h
  | opImm8 => exact h.imm8.bind fun _ _ _ h => .ok _ h
  | opImm16 => exact h.imm16

theorem fetchInstr (h : AgreeButImeTicks s s') : (fetchInstr s).Alike (fetchInstr s') := by
  refine h.fetchOpcode.bind fun _ _ _ h => h.decodePhase.fetchImm.bind fun _ _ _ h => ?_
  rw [h.read_eq (f := State.params) fun _ _ => rfl]
  exact .ok _ h

/-! ## The step -/

theorem latched (i : Instr) (h : AgreeButImeTicks s s') : AgreeButImeTicks (latched i s) (latched i s') := by
  unfold Machine.latched
  split
  · exact h.map fun _ _ => rfl
  · exact h

/-- Resolve and Execute of one descriptor, up to the end of the step. -/
theorem exec (i : Instr) (h : AgreeButImeTicks s s') : SameButImeTicks (exec i s) (exec i s') := by
  rw [exec_eq_runDesc, exec_eq_runDesc]
  exact (((h.latched i).beginResolve i.desc).resolve (immOf i) |>.bind fun _ _ _ h => h.execute).outcome

theorem step (h : AgreeButImeTicks s s') : SameButImeTicks (step s) (step s') := by
  have hstatus := h.read_eq (f := State.status) fun _ _ => rfl
  have hhalted := h.read_eq (f := State.halted) fun _ _ => rfl
  cases hs : s.status with
  | faulted info =>
    rw [hs] at hstatus
    rw [faultedHasNoStep s info hs, faultedHasNoStep s' info hstatus]
    exact rfl
  | running =>
    rw [hs] at hstatus
    cases hh : s.halted with
    | true =>
      rw [hh] at hhalted
      rw [step_halted hs hh, step_halted hstatus hhalted]
      exact h.tick _
    | false =>
      rw [hh] at hhalted
      rw [step_running hs hh, step_running hstatus hhalted]
      have hfetch := h.fetchInstr
      generalize Machine.fetchInstr s = r, Machine.fetchInstr s' = r' at hfetch ⊢
      cases hfetch with
      | ok i h => exact h.exec i
      | raise info h => exact h.takeFault info

end AgreeButImeTicks

/-- Settles O29: every part of a step keeps the relation of two states that differ in IME and the ticks only. -/
theorem imeAndTicksNeverDecideAnything : Obligations.ImeAndTicksNeverDecideAnything :=
  fun s b n => AgreeButImeTicks.step (s := s) ⟨b, n, rfl⟩

/-! ## The faults of a step (R179 to R182) -/

theorem imm8_faults (s : State) : (imm8 s).BusFaultsOnly := (busRead_faults ..).bind fun _ _ => trivial

theorem fetchImm_faults (s : State) : (fetchImm s).BusFaultsOnly := by
  unfold fetchImm
  cases s.t.curDesc.mode.format with
  | op => trivial
  | opImm8 => exact (imm8_faults s).bind fun _ _ => trivial
  | opImm16 => exact (imm8_faults s).bind fun _ _ => (imm8_faults _).bind fun _ _ => trivial

theorem fetchInstr_faults (s : State) : (fetchInstr s).BusFaultsOnly :=
  Res.BusFaultsOnly.bind ((busRead_faults ..).bind fun _ _ => trivial) fun _ _ =>
    (fetchImm_faults _).bind fun _ _ => trivial

/-- The sentinel's kind is INVALID's only. -/
theorem eq_invalid_of_kind (h : i.desc.kind = .none) : i = .invalid i.opcode := by
  cases i
  case invalid => rfl
  all_goals cases h

/-- No part of a fetch changes the parameters. -/
theorem fetchInstr_params (h : fetchInstr s = .ok i s') : s'.params = s.params := by
  have hends := (stable_control fun _ _ _ params => params = s.params).fetchInstr (s := s) rfl
  rwa [h] at hends

/-- A completed fetch has read its instruction's opcode at PC, and answers what the table builds for it (R77, R91). -/
theorem fetchInstr_ok_opcode (h : fetchInstr s = .ok i s') : s.peek s.pc = some i.opcode ∧
    descOf s.params.leftOut i.opcode = i.desc ∧ i.admitted s.params.leftOut = true := by
  have hparams := fetchInstr_params h
  cases hop : s.peek s.pc with
  | none => rw [fetchInstr_raise_opcode ((peek_eq_none_iff ..).mp hop)] at h; cases h
  | some op =>
    rw [fetchInstr_opcode hop] at h
    cases himm : fetchImm (afterOpcode op s) <;> rw [himm] at h <;> cases h
    obtain ⟨hdesc, hopcode, -⟩ := instrOf_desc s'.params.leftOut op ‹_›
    rw [← hparams, hopcode]
    exact ⟨rfl, hdesc.symm, instrOf_admitted ..⟩

/-- INVALID has no immediate, so its fetch ends where its opcode's does. -/
theorem fetchInstr_ok_invalid {op : Byte} (h : fetchInstr s = .ok (.invalid op) s') : s' = afterOpcode op s := by
  obtain ⟨hop, hdesc, -⟩ := fetchInstr_ok_opcode h
  have himm : fetchImm (afterOpcode op s) = .ok 0 (afterOpcode op s) := by
    unfold fetchImm
    rw [afterOpcode_desc, show descOf s.params.leftOut op = Desc.sentinel from hdesc]
    rfl
  rw [fetchInstr_opcode (opcode := op) hop, himm] at h
  exact (Res.ok.inj h).2.symm

/-- Settles O25: a step that raises InvalidInstruction has fetched INVALID, and every other fault is the bus's. -/
theorem faultsAreTheTwoKinds : Obligations.FaultsAreTheTwoKinds := by
  intro s r hs h
  cases hh : s.halted with
  | true => rw [step_halted hs hh] at h; cases h
  | false =>
    rw [step_running hs hh] at h
    cases hfetch : fetchInstr s with
    | raise info s1 =>
      have hraise := fetchInstr_faults s
      rw [hfetch] at h hraise
      exact .inr (takeFault_faults hraise h)
    | ok i s1 =>
      rw [hfetch] at h
      by_cases hk : i.desc.kind = .none
      · rw [eq_invalid_of_kind hk] at h hfetch
        obtain ⟨hop, -, hadmitted⟩ := fetchInstr_ok_opcode hfetch
        dsimp only at h
        rw [invalidAlwaysFaults, fetchInstr_ok_invalid hfetch] at h
        cases h
        exact .inl ⟨_, _, rfl, hop, by simpa [Instr.admitted] using hadmitted, rfl, rfl⟩
      · exact .inr (exec_faults hk h)

/-! ## Where a push faults (R181) -/

/-- Each of the pushes pushes its word before it does anything else. -/
theorem exec_pushesWord (a16 : Word) (s : State) : ∀ form ∈ pushesWord a16 s,
    ∃ k : State → State, exec form.1 s = ((push16 form.2 s).bind fun _ s => .ok () (k s)).outcome := by
  simp only [pushesWord, List.mem_append, List.mem_map, List.mem_filter]
  rintro _ ((⟨form, hform, rfl⟩ | ⟨form, hform, rfl⟩) | ⟨form, ⟨hform, hc⟩, rfl⟩)
  · refine ⟨id, (exec_pushForms form hform s).trans ?_⟩
    cases push16 (s.read form.2) s <;> rfl
  · exact ⟨_, exec_rstForms form hform s⟩
  · exact ⟨_, (exec_callForms a16 form hform s).trans (if_pos hc)⟩

/-- The byte a push8 wrote reads back, but for the business of an open provider. -/
theorem holds_pushed8 (h : Writable (s.sp - 1)) (b : Byte) : (pushed8 b s).Holds (s.sp - 1) b :=
  holds_place h b (s.setSp (s.sp - 1))

/-- Settles O52: the two clauses are the two faults of the push16, the high byte's first. -/
theorem pushFaults : Obligations.PushFaults := by
  intro a16 s form hform
  obtain ⟨k, hexec⟩ := exec_pushesWord a16 s form hform
  refine ⟨fun h1 => ?_, fun h1 h2 => ?_⟩ <;> rw [hexec]
  · rw [push16_raise_high s h1]; rfl
  · rw [push16_raise_low s h1 h2]
    refine ⟨_, rfl, rfl, by simp [pushed8], ?_⟩
    exact (holds_pushed8 h1 (hiByte form.2)).congr (by simp [pushed8]) (by rw [peek_enterFaulted, peek_setSp])

/-! ## Where a pop faults (R181) -/

/-- RETI sets IME, pops a word and jumps to it (42_control_transfer.md R161). -/
theorem exec_reti (s : State) : exec .reti s = ((pop16 (s.setIme true)).bind fun v s => .ok () (s.setPc v)).outcome :=
  run_reti s 0 .none none .none .none

/-- Neither RETI's write of IME nor a tick of RET moves SP. -/
theorem popsWord_sp (s : State) : ∀ form ∈ popsWord s, form.2.sp = s.sp := by
  simp only [popsWord, List.mem_append, List.mem_map]
  rintro _ (hform | ⟨form, -, rfl⟩)
  · simp only [List.mem_cons, List.not_mem_nil, or_false] at hform
    rcases hform with rfl | rfl | rfl | rfl | rfl <;> rfl
  · rfl

/-- Each of the pops pops its word, in the state named beside it, before it does anything else. -/
theorem exec_popsWord (s : State) : ∀ form ∈ popsWord s,
    ∃ k : Word → State → State, exec form.1 s = ((pop16 form.2).bind fun v s => .ok () (k v s)).outcome := by
  have hpop := exec_popForms
  simp only [popForms, List.forall_mem_cons] at hpop
  obtain ⟨hbc, hde, hhl, -⟩ := hpop
  simp only [popsWord, List.cons_append, List.nil_append, List.forall_mem_cons, List.mem_map, List.mem_filter]
  refine ⟨⟨_, hbc s⟩, ⟨_, hde s⟩, ⟨_, hhl s⟩, ⟨_, exec_popAF s⟩, ⟨_, exec_reti s⟩, ?_⟩
  rintro _ ⟨form, ⟨hform, hc⟩, rfl⟩
  exact ⟨_, (exec_retForms form hform s).trans (if_pos hc)⟩

/-- Settles O53: the two clauses are the two faults of the pop16, the low byte's first. -/
theorem popFaults : Obligations.PopFaults := by
  intro s form hform
  obtain ⟨k, hexec⟩ := exec_popsWord s form hform
  rw [← popsWord_sp s form hform]
  refine ⟨fun h0 => ?_, fun h0 h1 => ?_⟩ <;> rw [hexec]
  · rw [pop16_raise_low _ ((peek_eq_none_iff ..).mpr h0)]; rfl
  · obtain ⟨lo, hlo⟩ := (peek_isSome_iff _ form.2).mpr h0
    rw [pop16_raise_high _ hlo ((peek_eq_none_iff ..).mpr h1)]; rfl

end Sys2Proof.Machine
end

section
/-! SUPPORT. The statements about reset and about the ticks of a step (70_reset_and_hazards.md). -/

namespace Sys2Proof

/-- The modes whose operand is written back to memory, for which Resolve sets the destination (40_step_and_addressing.md
R103 to R122). -/
def Mode.writesMem : Mode → Bool
  | .mrR | .hliR | .hldR | .mrD8 | .mr | .a16R | .a8R => true
  | .imp | .r | .rR | .rD8 | .rD16 | .d8 | .d16 | .rMr | .rHli | .rHld | .rA16 | .rA8 | .hlSpr => false

/-- The tick a handler emits, by the descriptor it runs: LD of a 16-bit register to memory (41_load.md R127), RET under a
condition (42_control_transfer.md R158), and INC of a 16-bit register (44_arith_logic.md R167). -/
def Desc.handlerTicks (d : Desc) : Nat :=
  match d.kind with
  | .ld => if d.mode.writesMem ∧ d.r2.is16 then 1 else 0
  | .ret => if d.cond = .none then 0 else 1
  | .inc => if ¬ d.mode.writesMem ∧ (d.r1 = .bc ∨ d.r1 = .de ∨ d.r1 = .hl ∨ d.r1 = .sp) then 1 else 0
  | .nop | .ldh | .jp | .jr | .call | .reti | .rst | .push | .pop | .xor | .di | .none => 0

namespace Machine

variable {s s' : State} {i : Instr} {n : Nat} {d : Desc} {m : Bool} {addr imm : Word}

/-! ## Reset (R196) -/

/-- Settles O18: each field of the launch is the value the rule gives it. -/
theorem launchState : Obligations.LaunchState :=
  fun _ _ _ => ⟨rfl, rfl, rfl, rfl, rfl, rfl, rfl, rfl, rfl, rfl, rfl, rfl, rfl, rfl, rfl, rfl, rfl, rfl⟩

/-! ## Resolve emits no tick, and its mode decides whether the destination is memory -/

/-- `n` ticks are emitted, the instruction that runs has the descriptor `d`, and its destination is memory if `m`. -/
def Resolved (n : Nat) (d : Desc) (m : Bool) (s : State) : Prop := s.ticks = n ∧ s.t.curDesc = d ∧ s.t.destIsMem = m

theorem accessStable_resolved (n : Nat) (d : Desc) (m : Bool) : AccessStable (Resolved n d m) where
  note x s h := by rwa [Resolved, State.note_ticks, State.note_t]
  place a b s h := by rwa [Resolved, place_ticks, place_t]
  setSp _ _ h := h

theorem Resolved.fetchFrom (h : Resolved n d m s) : (fetchFrom addr s).Ends (Resolved n d m) :=
  ((accessStable_resolved n d m).busRead h).bind fun _ _ h => h

theorem Resolved.setMemDest (h : Resolved n d m s) : Resolved n d true (s.setMemDest addr) := ⟨h.1, h.2.1, rfl⟩

/-- Resolve starts with the destination reset (10_state.md R29), and the modes that write memory set it. -/
theorem resolve_resolved (h : Resolved n d false s) : (resolve imm s).Ends (Resolved n d d.mode.writesMem) := by
  have ⟨hticks, hdesc, _⟩ := h
  subst hdesc
  unfold resolve
  dsimp only
  cases s.t.curDesc.mode
  case rMr | rA16 => exact h.fetchFrom
  case mr => exact (h.setMemDest (addr := s.read .hl)).fetchFrom
  case rHli | rHld => exact h.fetchFrom.bind fun _ _ h => h
  case mrR | hliR | hldR | mrD8 | a16R | a8R => exact ⟨hticks, rfl, rfl⟩
  all_goals exact h

/-! ## The ticks of each handler -/

theorem Resolved.write {r : Reg} {v : Word} (h : Resolved n d m s) : Resolved n d m (s.write r v) := by
  rwa [Resolved, State.write_ticks, State.write_t]

theorem Resolved.tick (k : Nat) (h : Resolved n d m s) : Resolved (n + k) d m (s.tick k) := by
  obtain ⟨rfl, hd⟩ := h
  exact ⟨rfl, hd⟩

/-- A pop followed by a jump emits no tick. -/
theorem Resolved.popThenSetPc (h : Resolved n d m s) :
    ((pop16 s).bind fun v s => Res.ok () (s.setPc v)).Ends (Resolved n d m) :=
  ((accessStable_resolved n d m).pop16 h).bind fun _ _ h => h

/-- LD emits a tick where it stores a 16-bit register. -/
theorem handleLd_ticks (h : Resolved n d d.mode.writesMem s) (hk : d.kind = .ld) :
    (handleLd s).Ends (Resolved (n + d.handlerTicks) d d.mode.writesMem) := by
  have ⟨_, hdesc, hmem⟩ := h
  unfold handleLd Desc.handlerTicks
  simp only [hdesc, hmem, hk]
  by_cases hspr : d.mode = .hlSpr
  · rw [if_pos hspr, if_neg (by simp [hspr, Mode.writesMem])]
    exact h.write (s := setFlags ..)
  rw [if_neg hspr]
  by_cases hw : d.mode.writesMem = true
  · rw [if_pos hw]
    by_cases h16 : d.r2.is16 = true
    · rw [if_pos h16, if_pos ⟨hw, h16⟩]
      exact (accessStable_resolved ..).write16 (h.tick 1)
    · rw [if_neg h16, if_neg fun hc => h16 hc.2]
      exact (accessStable_resolved ..).busWrite h
  · rw [if_neg hw, if_neg fun hc => hw hc.1]
    exact h.write

/-- RET emits a tick where it has a condition, which it may then find to hold or not. -/
theorem handleRet_ticks (h : Resolved n d m s) (hk : d.kind = .ret) :
    (handleRet s).Ends (Resolved (n + d.handlerTicks) d m) := by
  have hreturn {s : State} (h : Resolved (n + d.handlerTicks) d m s) :
      (if d.cond.holds s.f then (pop16 s).bind fun v s => Res.ok () (s.setPc v) else .ok () s).Ends
        (Resolved (n + d.handlerTicks) d m) := by
    split
    · exact h.popThenSetPc
    · exact h
  have ⟨_, hdesc, _⟩ := h
  subst hdesc
  unfold handleRet
  refine hreturn ?_
  simp only [Desc.handlerTicks, hk]
  split
  · exact h
  · exact h.tick 1

/-- INC emits a tick where it writes a 16-bit register. -/
theorem handleInc_ticks (h : Resolved n d d.mode.writesMem s) (hk : d.kind = .inc) :
    (handleInc s).Ends (Resolved (n + d.handlerTicks) d d.mode.writesMem) := by
  have ⟨_, hdesc, hmem⟩ := h
  unfold handleInc Desc.handlerTicks
  simp only [hdesc, hmem, hk]
  by_cases hw : d.mode.writesMem = true
  · rw [if_pos hw, if_neg fun hc => hc.1 hw]
    exact ((accessStable_resolved ..).busWrite h).bind fun _ _ h => h
  rw [if_neg hw]
  by_cases h16 : d.r1 = .bc ∨ d.r1 = .de ∨ d.r1 = .hl ∨ d.r1 = .sp
  · rw [if_pos h16, if_pos ⟨hw, h16⟩]
    exact (h.tick 1).write
  · rw [if_neg h16, if_neg fun hc => h16 hc.2]
    exact Resolved.write h

/-- JP, JR and CALL emit no tick, whether they jump or not. -/
theorem handleBranch_ticks (h : Resolved n d m s) : (handleBranch s).Ends (Resolved n d m) := by
  unfold handleBranch
  extract_lets d' target
  split
  · split
    · exact ((accessStable_resolved n d m).push16 h).bind fun _ _ h => h
    · exact h
  · exact h

theorem handleLdh_ticks (h : Resolved n d m s) : (handleLdh s).Ends (Resolved n d m) := by
  unfold handleLdh
  split
  · exact ((accessStable_resolved n d m).busRead h).bind fun _ _ h => h.write
  · exact (accessStable_resolved n d m).busWrite h

/-- Execute emits the ticks of its descriptor's handler. -/
theorem execute_ticks (h : Resolved n d d.mode.writesMem s) :
    (execute s).Ends (Resolved (n + d.handlerTicks) d d.mode.writesMem) := by
  have hP := accessStable_resolved n d d.mode.writesMem
  have hzero (hk : d.kind ∉ [Kind.ld, .ret, .inc]) : n + d.handlerTicks = n := by
    unfold Desc.handlerTicks
    cases hkind : d.kind
    case ld | ret | inc => rw [hkind] at hk; exact absurd (by decide) hk
    all_goals rfl
  have ⟨_, hdesc, _⟩ := h
  unfold execute
  rw [hdesc]
  cases hk : d.kind
  case ld => exact handleLd_ticks h hk
  case ret => exact handleRet_ticks h hk
  case inc => exact handleInc_ticks h hk
  all_goals rw [hzero (by rw [hk]; decide)]
  case nop | di | none => exact h
  case ldh => exact handleLdh_ticks h
  case jp | jr | call => exact handleBranch_ticks h
  case reti => exact Resolved.popThenSetPc (s := s.setIme true) h
  case rst => exact (hP.push16 h).bind fun _ _ h => h
  case push => exact hP.push16 h
  case pop => exact (hP.pop16 h).bind fun _ _ h => h.write
  case xor => exact Resolved.write h

/-! ## The ticks of an instruction and of its step (R201) -/

/-- Where two operations in a row complete, the first completes, and the second completes from the state it ends in. -/
theorem Res.bind_outcome_next {α : Type} {r : Res α} {k : α → State → Res Unit} (h : (r.bind k).outcome = .next s') :
    ∃ x s, r = .ok x s ∧ (k x s).outcome = .next s' := by
  cases r with
  | ok x s => exact ⟨x, s, rfl, h⟩
  | raise info s => cases info <;> cases h

/-- An instruction that completes has emitted its handler's ticks. -/
theorem exec_ticks (h : exec i s = .next s') : s'.ticks = s.ticks + i.desc.handlerTicks := by
  have hstart : Resolved s.ticks i.desc false ((latched i s).beginResolve i.desc) := by
    refine ⟨?_, rfl, rfl⟩
    unfold latched
    split <;> rfl
  have hresolve := resolve_resolved (imm := immOf i) hstart
  rw [exec_eq_runDesc] at h
  obtain ⟨_, s1, hs1, hexecute⟩ := Res.bind_outcome_next h
  rw [hs1] at hresolve
  obtain ⟨s2, ⟨hticks, -⟩, rfl⟩ := (execute_ticks hresolve).outcome hexecute
  exact hticks

/-- The opcodes with an extra tick are those whose descriptor's handler emits one. -/
theorem extraTicks_eq_handlerTicks (h : i.desc.kind ≠ .none) : extraTicks i = i.desc.handlerTicks := by
  cases i
  case invalid => exact absurd rfl h
  all_goals rfl

/-- INVALID never completes (45_system.md R177). -/
theorem kind_ne_none_of_exec_next (h : exec i s = .next s') : i.desc.kind ≠ .none := by
  intro hk
  rw [eq_invalid_of_kind hk, invalidAlwaysFaults] at h
  cases h

/-- Settles O33: the fetch emits its tick and one for each immediate byte, and the rest is the tick of the handler. -/
theorem ticksOfAStep : Obligations.TicksOfAStep := by
  intro s s' bytes i hs hh hdecode hbytes hstep
  rw [stepRunsTheDecodedInstruction s bytes i hs hh hdecode hbytes] at hstep
  obtain ⟨-, rfl⟩ := decodeIn_eq_instr_iff.mp hdecode
  rw [extraTicks_eq_handlerTicks (kind_ne_none_of_exec_next hstep), exec_ticks hstep]
  simp [afterFetch, encode]

end Machine
end Sys2Proof
end
